-- ==== Sys2Proof/Word.lean ====
section
/-! DEFINITION. Word.lean: the word types of the TC480 and their plainest arithmetic. -/

namespace Sys2Proof

/-- One byte of a cell (R197). -/
abbrev Byte := BitVec 8

/-- One 24-bit signed audio sample (00_scope.md, Units). -/
abbrev Sample := BitVec 24

/-- A 48-bit unit identity (R11). -/
abbrev Identity := BitVec 48

/-- A seat set as it is carried on the wire (R196): bit n - 1 stands for seat n. -/
abbrev SeatSet := BitVec 80

/-- Whether seat `n` is in the set. -/
def SeatSet.has (x : SeatSet) (n : Nat) : Bool := decide (1 ≤ n) && x.getLsbD (n - 1)

/-- A counter that is incremented and stays at its top value (R1). -/
def bump (top n : Nat) : Nat := min top (n + 1)

end Sys2Proof
end

