-- ==== Sys2Proof/Config.lean ====
section
/-! DEFINITION. Config.lean: the free values (what the manual leaves open) and the limits the manual fixes. -/

namespace Sys2Proof.Config

/-- FREE VALUE. What the station unit's millisecond timer holds when HALT SEAT is taken (R11, R201): the manual
names the timer and not where it counts from. Applied to the state's counter of free values (log 5). -/
opaque haltInstant : Nat → BitVec 32

/-- FREE VALUE. The table time stored where a warning time, an extended end or a walk-in's end falls outside
0 to 4,294,967,295, for which the manual states no result (log 6). -/
opaque timeOutside : Nat → BitVec 32

/-- The top of table time (R29). -/
def maxTime : Nat := 4294967295

/-- Entries of the booking table (R33). -/
def maxBookings : Nat := 48

/-- Seats of the request queue (R72). -/
def maxQueue : Nat := 32

/-- Entries of the minutes queue (R174). -/
def minutesSize : Nat := 32

/-- Orders of the inbound order queue (R187). -/
def maxInbound : Nat := 4

/-- Seats of the share waiting list (R135). -/
def maxWaiting : Nat := 4

/-- The consecutive failures at which the ring is BROKEN (R10). -/
def breakCount : Nat := 32

end Sys2Proof.Config
end

