-- ==== Sys2Proof/Syntax.lean ====
section
/-! DEFINITION. Syntax.lean: the 81 commands of the TC480, one constructor per row of spec/opcode_table.json.
The operands of an order are its fields as the wire carries them (R200), each a number no check has been made on:
the owner's own rule refuses a value outside its range. -/

namespace Sys2Proof

/-- The backup cell as the monitor reads it (R205). -/
inductive BackupCond where
  | low
  | ok
  deriving DecidableEq, Repr

/-- The ten source samples of a returning frame (R121). -/
structure Slots where
  mics  : Vector Sample 8
  share : Sample
  farIn : Sample
  deriving DecidableEq, Repr

/-- Where an ORDER came from, its tag, and the part of the result it requests (R187, R197, R199). -/
structure OrderHead where
  source : Nat
  tag    : Nat
  part   : Nat
  deriving DecidableEq, Repr

/-- A session profile as it is carried (R196): fifteen fields in the order of their numbers in R69. -/
structure RawProfile where
  floorMode    : Nat
  openLimit    : Nat
  speakLimit   : Nat
  warnLead     : Nat
  limitAction  : Nat
  fullAction   : Nat
  priorityMode : Nat
  duckGain     : Nat
  grade        : Nat
  minutesMode  : Nat
  sharePolicy  : Nat
  shareGrace   : Nat
  openMute     : Nat
  endLead      : Nat
  extStep      : Nat
  deriving DecidableEq, Repr

/-- The fields that BOOK and ALTER carry (R35, R37). -/
structure RawBooking where
  startAt   : Nat
  endAt     : Nat
  organiser : Nat
  plan      : Nat
  profile   : RawProfile
  deriving DecidableEq, Repr

/-- The fields of LOAD WALK-IN (R70). -/
structure RawWalkIn where
  allowed : Nat
  plan    : Nat
  profile : RawProfile
  length  : Nat
  gap     : Nat
  deriving DecidableEq, Repr

/-- The fields of LOAD RING PLAN (R26). -/
structure RawRingPlan where
  expected      : Nat
  period        : Nat
  limit         : Nat
  idleAllowed   : Nat
  contentFitted : Nat
  clockSource   : Nat
  keepOpen      : Nat
  deriving DecidableEq, Repr

/-- A target set as it is carried (R161, R196): form 0 list, 1 ALL, 2 CHAIRS, and the listed seats. -/
structure TargetSet where
  form  : Nat
  seats : List Nat
  deriving DecidableEq, Repr

/-- The commands. First the events of the ring, the time base, the monitors and the pins, then the orders. -/
inductive Instr where
  | frameEmit
  | frameReturn (number : Nat) (lane : List Byte) (slots : Slots)
  | frameFail
  | probeRound
  | haltIntervalExpiry (seat : Nat)
  | graceExpiry
  | tableTimeTick
  | speakLimitExpiry (seat : Nat)
  | flashExpiry (seat : Nat)
  | listRefreshExpiry
  | cadenceTimerExpiry
  | externalPresent
  | externalLoss
  | mainsLoss
  | mainsReturn (reading : BackupCond)
  | backupLow
  | backupOk
  | resetLineLow
  | resetLineRelease (reading : BackupCond)
  | restartExecute (reading : BackupCond)
  | readStation (h : OrderHead) (number : Nat)
  | forget (h : OrderHead) (number : Nat)
  | haltSeat (h : OrderHead) (number : Nat)
  | resumeSeat (h : OrderHead) (number : Nat)
  | bypass (h : OrderHead) (number : Nat)
  | unbypass (h : OrderHead) (number : Nat)
  | clearCall (h : OrderHead) (number : Nat)
  | loadPlan (h : OrderHead) (plan : Nat) (enabled : SeatSet) (chair1 chair2 : Nat) (shareRight : SeatSet)
  | readPlan (h : OrderHead) (plan : Nat)
  | loadWalkIn (h : OrderHead) (fields : RawWalkIn)
  | readWalkIn (h : OrderHead)
  | setClock (h : OrderHead) (time : Nat) (guard : BitVec 32)
  | readClock (h : OrderHead)
  | book (h : OrderHead) (fields : RawBooking)
  | alter (h : OrderHead) (id : Nat) (fields : RawBooking)
  | cancel (h : OrderHead) (id : Nat)
  | readBooking (h : OrderHead) (position : Nat)
  | setHorizon (h : OrderHead) (time : Nat)
  | lowerHorizon (h : OrderHead) (time : Nat) (guard : BitVec 32)
  | eraseBookings (h : OrderHead) (guard : BitVec 32)
  | setGuard (h : OrderHead) (value : BitVec 32)
  | startNow (h : OrderHead)
  | endNow (h : OrderHead)
  | extend (h : OrderHead)
  | raiseGrade (h : OrderHead) (grade : Nat)
  | adjustSession (h : OrderHead) (field value : Nat)
  | switchPlan (h : OrderHead) (plan : Nat)
  | readSession (h : OrderHead)
  | grant (h : OrderHead) (seat force : Nat)
  | close (h : OrderHead) (seat : Nat)
  | closeAll (h : OrderHead) (chairs : Nat)
  | queueInsert (h : OrderHead) (seat position : Nat)
  | queueRemove (h : OrderHead) (seat : Nat)
  | queueClear (h : OrderHead)
  | readQueue (h : OrderHead) (position : Nat)
  | readChannels (h : OrderHead)
  | setGain (h : OrderHead) (bus source code : Nat)
  | readMix (h : OrderHead) (bus : Nat)
  | shareGrant (h : OrderHead) (seat : Nat)
  | shareEnd (h : OrderHead)
  | shareClearWaiting (h : OrderHead)
  | panelPage (h : OrderHead) (page : Nat) (targets : TargetSet)
  | panelText (h : OrderHead) (canvas line : Nat) (text : List Byte) (targets : TargetSet)
  | panelTile (h : OrderHead) (tile canvas x y : Nat) (targets : TargetSet)
  | panelFill (h : OrderHead) (canvas x0 x1 y0 y1 colour : Nat) (targets : TargetSet)
  | setClip (h : OrderHead) (x0 x1 y0 y1 : Nat) (targets : TargetSet)
  | tileLoad (h : OrderHead) (tile piece : Nat) (data : List Byte)
  | tileFlip (h : OrderHead) (tile : Nat)
  | readPanel (h : OrderHead) (seat : Nat)
  | setLogMode (h : OrderHead) (mode : Nat)
  | setLogRange (h : OrderHead) (range enabled first last mask : Nat)
  | readLog (h : OrderHead)
  | readStatus (h : OrderHead)
  | setNoticeMask (h : OrderHead) (mask : BitVec 16)
  | takeNotice (h : OrderHead)
  | clearNotices (h : OrderHead)
  | loadRingPlan (h : OrderHead) (fields : RawRingPlan)
  | enableBackup (h : OrderHead)
  | disableBackup (h : OrderHead)
  | clearClockFault (h : OrderHead)
  | restart (h : OrderHead)
  deriving DecidableEq, Repr

end Sys2Proof
end

