-- ==== Sys2Proof/WellFormed.lean ====
section
/-! DEFINITION. WellFormed.lean: which commands can be carried at all: every operand fits the bytes that R200 (for an
order) or the ring (for a frame) gives it. A value that fits its bytes and lies outside its range is well-formed:
the owner refuses it. -/

namespace Sys2Proof

/-- The number fits one byte (R196). -/
def fits8 (n : Nat) : Bool := decide (n < 256)

/-- The number fits two bytes (R196). -/
def fits16 (n : Nat) : Bool := decide (n < 65536)

/-- The number fits four bytes (R196). -/
def fits32 (n : Nat) : Bool := decide (n < 4294967296)

/-- Source, tag and part are one byte each (R197, R199), and a source is an address, 0 to 126 (R197). -/
def OrderHead.wellFormed (h : OrderHead) : Bool := decide (h.source ≤ 126) && fits8 h.tag && fits8 h.part

/-- One byte a field, two for the speak limit (R196). -/
def RawProfile.wellFormed (p : RawProfile) : Bool :=
  fits8 p.floorMode && fits8 p.openLimit && fits16 p.speakLimit && fits8 p.warnLead && fits8 p.limitAction &&
  fits8 p.fullAction && fits8 p.priorityMode && fits8 p.duckGain && fits8 p.grade && fits8 p.minutesMode &&
  fits8 p.sharePolicy && fits8 p.shareGrace && fits8 p.openMute && fits8 p.endLead && fits8 p.extStep

def RawBooking.wellFormed (b : RawBooking) : Bool :=
  fits32 b.startAt && fits32 b.endAt && fits16 b.organiser && fits8 b.plan && b.profile.wellFormed

def RawWalkIn.wellFormed (w : RawWalkIn) : Bool :=
  fits8 w.allowed && fits8 w.plan && w.profile.wellFormed && fits8 w.length && fits8 w.gap

def RawRingPlan.wellFormed (p : RawRingPlan) : Bool :=
  fits8 p.expected && fits16 p.period && fits8 p.limit && fits8 p.idleAllowed && fits8 p.contentFitted &&
  fits8 p.clockSource && fits8 p.keepOpen

/-- Form and seats are bytes, and `room` bytes of the order body are left for the listed seats (R200). -/
def TargetSet.wellFormed (room : Nat) (t : TargetSet) : Bool :=
  fits8 t.form && t.seats.all fits8 && decide (t.seats.length ≤ room)

/-- Every operand fits its bytes; an order body with its head is at most 32 bytes (R197, R200). -/
def Instr.wellFormed : Instr → Bool
  | .frameEmit => true
  | .frameReturn number _ _ => decide (number < 4096)
  | .frameFail => true
  | .probeRound => true
  | .haltIntervalExpiry seat => fits8 seat
  | .graceExpiry => true
  | .tableTimeTick => true
  | .speakLimitExpiry seat => fits8 seat
  | .flashExpiry seat => fits8 seat
  | .listRefreshExpiry => true
  | .cadenceTimerExpiry => true
  | .externalPresent => true
  | .externalLoss => true
  | .mainsLoss => true
  | .mainsReturn _ => true
  | .backupLow => true
  | .backupOk => true
  | .resetLineLow => true
  | .resetLineRelease _ => true
  | .restartExecute _ => true
  | .readStation h n => h.wellFormed && fits8 n
  | .forget h n => h.wellFormed && fits8 n
  | .haltSeat h n => h.wellFormed && fits8 n
  | .resumeSeat h n => h.wellFormed && fits8 n
  | .bypass h n => h.wellFormed && fits8 n
  | .unbypass h n => h.wellFormed && fits8 n
  | .clearCall h n => h.wellFormed && fits8 n
  | .loadPlan h p _ c1 c2 _ => h.wellFormed && fits8 p && fits8 c1 && fits8 c2
  | .readPlan h p => h.wellFormed && fits8 p
  | .loadWalkIn h w => h.wellFormed && w.wellFormed
  | .readWalkIn h => h.wellFormed
  | .setClock h t _ => h.wellFormed && fits32 t
  | .readClock h => h.wellFormed
  | .book h b => h.wellFormed && b.wellFormed
  | .alter h id b => h.wellFormed && fits16 id && b.wellFormed
  | .cancel h id => h.wellFormed && fits16 id
  | .readBooking h p => h.wellFormed && fits8 p
  | .setHorizon h t => h.wellFormed && fits32 t
  | .lowerHorizon h t _ => h.wellFormed && fits32 t
  | .eraseBookings h _ => h.wellFormed
  | .setGuard h _ => h.wellFormed
  | .startNow h => h.wellFormed
  | .endNow h => h.wellFormed
  | .extend h => h.wellFormed
  | .raiseGrade h g => h.wellFormed && fits8 g
  | .adjustSession h f v => h.wellFormed && fits8 f && fits16 v
  | .switchPlan h p => h.wellFormed && fits8 p
  | .readSession h => h.wellFormed
  | .grant h n f => h.wellFormed && fits8 n && fits8 f
  | .close h n => h.wellFormed && fits8 n
  | .closeAll h f => h.wellFormed && fits8 f
  | .queueInsert h n p => h.wellFormed && fits8 n && fits8 p
  | .queueRemove h n => h.wellFormed && fits8 n
  | .queueClear h => h.wellFormed
  | .readQueue h p => h.wellFormed && fits8 p
  | .readChannels h => h.wellFormed
  | .setGain h b s c => h.wellFormed && fits8 b && fits8 s && fits8 c
  | .readMix h b => h.wellFormed && fits8 b
  | .shareGrant h n => h.wellFormed && fits8 n
  | .shareEnd h => h.wellFormed
  | .shareClearWaiting h => h.wellFormed
  | .panelPage h p t => h.wellFormed && fits8 p && t.wellFormed 27
  | .panelText h c l x t =>
      h.wellFormed && fits8 c && fits8 l && decide (x.length ≤ 25) && t.wellFormed (25 - x.length)
  | .panelTile h k c x y t =>
      h.wellFormed && fits8 k && fits8 c && fits8 x && fits8 y && t.wellFormed 24
  | .panelFill h c x0 x1 y0 y1 k t =>
      h.wellFormed && fits8 c && fits8 x0 && fits8 x1 && fits8 y0 && fits8 y1 && fits8 k && t.wellFormed 22
  | .setClip h x0 x1 y0 y1 t =>
      h.wellFormed && fits8 x0 && fits8 x1 && fits8 y0 && fits8 y1 && t.wellFormed 24
  | .tileLoad h k p d => h.wellFormed && fits8 k && fits8 p && decide (d.length = 16)
  | .tileFlip h k => h.wellFormed && fits8 k
  | .readPanel h n => h.wellFormed && fits8 n
  | .setLogMode h m => h.wellFormed && fits8 m
  | .setLogRange h r e a b m => h.wellFormed && fits8 r && fits8 e && fits8 a && fits8 b && fits8 m
  | .readLog h => h.wellFormed
  | .readStatus h => h.wellFormed
  | .setNoticeMask h _ => h.wellFormed
  | .takeNotice h => h.wellFormed
  | .clearNotices h => h.wellFormed
  | .loadRingPlan h p => h.wellFormed && p.wellFormed
  | .enableBackup h => h.wellFormed
  | .disableBackup h => h.wellFormed
  | .clearClockFault h => h.wellFormed
  | .restart h => h.wellFormed

end Sys2Proof
end

