-- ==== Sys2Proof/Decode.lean ====
section
/-! DEFINITION. Decode.lean: no row of spec/opcode_table.json gives bits, so `decodeTableWord` spells no command. What
the hardware does decode, the body of an ORDER cell (R199, R200), is read here, once, with its inverse beside it. -/

namespace Sys2Proof

/-- The command that a word spells by the table's bits: none, since no row gives bits. -/
def decodeTableWord (_nbits _w : Nat) : Option Instr := none

/-- The order code of an order (section 10.3); none for an event. -/
def Instr.orderCode : Instr → Option Nat
  | .frameEmit => none
  | .frameReturn _ _ _ => none
  | .frameFail => none
  | .probeRound => none
  | .haltIntervalExpiry _ => none
  | .graceExpiry => none
  | .tableTimeTick => none
  | .speakLimitExpiry _ => none
  | .flashExpiry _ => none
  | .listRefreshExpiry => none
  | .cadenceTimerExpiry => none
  | .externalPresent => none
  | .externalLoss => none
  | .mainsLoss => none
  | .mainsReturn _ => none
  | .backupLow => none
  | .backupOk => none
  | .resetLineLow => none
  | .resetLineRelease _ => none
  | .restartExecute _ => none
  | .readStation _ _ => some 0x10
  | .forget _ _ => some 0x11
  | .haltSeat _ _ => some 0x12
  | .resumeSeat _ _ => some 0x13
  | .bypass _ _ => some 0x14
  | .unbypass _ _ => some 0x15
  | .clearCall _ _ => some 0x16
  | .loadPlan _ _ _ _ _ _ => some 0x20
  | .readPlan _ _ => some 0x21
  | .loadWalkIn _ _ => some 0x22
  | .readWalkIn _ => some 0x23
  | .setClock _ _ _ => some 0x30
  | .readClock _ => some 0x31
  | .book _ _ => some 0x32
  | .alter _ _ _ => some 0x33
  | .cancel _ _ => some 0x34
  | .readBooking _ _ => some 0x35
  | .setHorizon _ _ => some 0x36
  | .lowerHorizon _ _ _ => some 0x37
  | .eraseBookings _ _ => some 0x38
  | .setGuard _ _ => some 0x39
  | .startNow _ => some 0x40
  | .endNow _ => some 0x41
  | .extend _ => some 0x42
  | .raiseGrade _ _ => some 0x43
  | .adjustSession _ _ _ => some 0x44
  | .switchPlan _ _ => some 0x45
  | .readSession _ => some 0x46
  | .grant _ _ _ => some 0x50
  | .close _ _ => some 0x51
  | .closeAll _ _ => some 0x52
  | .queueInsert _ _ _ => some 0x53
  | .queueRemove _ _ => some 0x54
  | .queueClear _ => some 0x55
  | .readQueue _ _ => some 0x56
  | .readChannels _ => some 0x57
  | .setGain _ _ _ _ => some 0x60
  | .readMix _ _ => some 0x61
  | .shareGrant _ _ => some 0x68
  | .shareEnd _ => some 0x69
  | .shareClearWaiting _ => some 0x6A
  | .panelPage _ _ _ => some 0x70
  | .panelText _ _ _ _ _ => some 0x71
  | .panelTile _ _ _ _ _ _ => some 0x72
  | .panelFill _ _ _ _ _ _ _ _ => some 0x73
  | .setClip _ _ _ _ _ _ => some 0x74
  | .tileLoad _ _ _ _ => some 0x75
  | .tileFlip _ _ => some 0x76
  | .readPanel _ _ => some 0x77
  | .setLogMode _ _ => some 0x80
  | .setLogRange _ _ _ _ _ _ => some 0x81
  | .readLog _ => some 0x82
  | .readStatus _ => some 0x90
  | .setNoticeMask _ _ => some 0x91
  | .takeNotice _ => some 0x92
  | .clearNotices _ => some 0x93
  | .loadRingPlan _ _ => some 0x94
  | .enableBackup _ => some 0x95
  | .disableBackup _ => some 0x96
  | .clearClockFault _ => some 0x97
  | .restart _ => some 0x98

/-- The head of an order; none for an event. -/
def Instr.head : Instr → Option OrderHead
  | .frameEmit => none
  | .frameReturn _ _ _ => none
  | .frameFail => none
  | .probeRound => none
  | .haltIntervalExpiry _ => none
  | .graceExpiry => none
  | .tableTimeTick => none
  | .speakLimitExpiry _ => none
  | .flashExpiry _ => none
  | .listRefreshExpiry => none
  | .cadenceTimerExpiry => none
  | .externalPresent => none
  | .externalLoss => none
  | .mainsLoss => none
  | .mainsReturn _ => none
  | .backupLow => none
  | .backupOk => none
  | .resetLineLow => none
  | .resetLineRelease _ => none
  | .restartExecute _ => none
  | .readStation h _ => some h
  | .forget h _ => some h
  | .haltSeat h _ => some h
  | .resumeSeat h _ => some h
  | .bypass h _ => some h
  | .unbypass h _ => some h
  | .clearCall h _ => some h
  | .loadPlan h _ _ _ _ _ => some h
  | .readPlan h _ => some h
  | .loadWalkIn h _ => some h
  | .readWalkIn h => some h
  | .setClock h _ _ => some h
  | .readClock h => some h
  | .book h _ => some h
  | .alter h _ _ => some h
  | .cancel h _ => some h
  | .readBooking h _ => some h
  | .setHorizon h _ => some h
  | .lowerHorizon h _ _ => some h
  | .eraseBookings h _ => some h
  | .setGuard h _ => some h
  | .startNow h => some h
  | .endNow h => some h
  | .extend h => some h
  | .raiseGrade h _ => some h
  | .adjustSession h _ _ => some h
  | .switchPlan h _ => some h
  | .readSession h => some h
  | .grant h _ _ => some h
  | .close h _ => some h
  | .closeAll h _ => some h
  | .queueInsert h _ _ => some h
  | .queueRemove h _ => some h
  | .queueClear h => some h
  | .readQueue h _ => some h
  | .readChannels h => some h
  | .setGain h _ _ _ => some h
  | .readMix h _ => some h
  | .shareGrant h _ => some h
  | .shareEnd h => some h
  | .shareClearWaiting h => some h
  | .panelPage h _ _ => some h
  | .panelText h _ _ _ _ => some h
  | .panelTile h _ _ _ _ _ => some h
  | .panelFill h _ _ _ _ _ _ _ => some h
  | .setClip h _ _ _ _ _ => some h
  | .tileLoad h _ _ _ => some h
  | .tileFlip h _ => some h
  | .readPanel h _ => some h
  | .setLogMode h _ => some h
  | .setLogRange h _ _ _ _ _ => some h
  | .readLog h => some h
  | .readStatus h => some h
  | .setNoticeMask h _ => some h
  | .takeNotice h => some h
  | .clearNotices h => some h
  | .loadRingPlan h _ => some h
  | .enableBackup h => some h
  | .disableBackup h => some h
  | .clearClockFault h => some h
  | .restart h => some h

/-- The order codes of section 10.3. Any other code is answered UNKNOWN (R187). -/
def orderCodes : List Nat :=
  [0x10, 0x11, 0x12, 0x13, 0x14, 0x15, 0x16, 0x20, 0x21, 0x22, 0x23] ++
  [0x30, 0x31, 0x32, 0x33, 0x34, 0x35, 0x36, 0x37, 0x38, 0x39] ++
  [0x40, 0x41, 0x42, 0x43, 0x44, 0x45, 0x46] ++
  [0x50, 0x51, 0x52, 0x53, 0x54, 0x55, 0x56, 0x57, 0x60, 0x61, 0x68, 0x69, 0x6A] ++
  [0x70, 0x71, 0x72, 0x73, 0x74, 0x75, 0x76, 0x77, 0x80, 0x81, 0x82] ++
  [0x90, 0x91, 0x92, 0x93, 0x94, 0x95, 0x96, 0x97, 0x98]

/-- The number of parts of each code's result (R201): 1 for every code not listed there. -/
def partsOf (code : Nat) : Nat :=
  if code = 0x35 then 2 else if code = 0x46 then 2 else if code = 0x57 then 4 else 1

/-! ### Fields on the wire (R196): most significant byte first -/

/-- A one-byte field. -/
def byte (n : Nat) : Byte := BitVec.ofNat 8 n

/-- A two-byte field. -/
def bytes2 (n : Nat) : List Byte := [byte (n / 256), byte n]

/-- A four-byte field. -/
def bytes4 (n : Nat) : List Byte := [byte (n / 16777216), byte (n / 65536), byte (n / 256), byte n]

/-- An identity, six bytes. -/
def bytes6 (n : Nat) : List Byte := [byte (n / 1099511627776), byte (n / 4294967296)] ++ bytes4 n

/-- A seat set, ten bytes, seats 1 to 8 in the first (R196). -/
def seatSetBytes (x : SeatSet) : List Byte := (List.range 10).map fun i => x.extractLsb' (8 * i) 8

/-- A flag (R196). -/
def flagByte (b : Bool) : Byte := if b then 1 else 0

/-- The one-byte field at position `i`. -/
def u8 (b : List Byte) (i : Nat) : Nat := (b.getD i 0).toNat

/-- The two-byte field at position `i`. -/
def u16 (b : List Byte) (i : Nat) : Nat := u8 b i * 256 + u8 b (i + 1)

/-- The four-byte field at position `i`. -/
def u32 (b : List Byte) (i : Nat) : Nat := u16 b i * 65536 + u16 b (i + 2)

/-- The six-byte identity at position `i`. -/
def identityAt (b : List Byte) (i : Nat) : Identity := BitVec.ofNat 48 (u16 b i * 4294967296 + u32 b (i + 2))

/-- The seat set at position `i` (R196). -/
def seatSetAt (b : List Byte) (i : Nat) : SeatSet :=
  ((b.drop i).take 10).foldr (fun x (acc : SeatSet) => (acc <<< 8) ||| (x.setWidth 80)) 0

/-- The profile at position `i`: sixteen bytes (R196). -/
def profileAt (b : List Byte) (i : Nat) : RawProfile :=
  { floorMode := u8 b i, openLimit := u8 b (i + 1), speakLimit := u16 b (i + 2), warnLead := u8 b (i + 4),
    limitAction := u8 b (i + 5), fullAction := u8 b (i + 6), priorityMode := u8 b (i + 7), duckGain := u8 b (i + 8),
    grade := u8 b (i + 9), minutesMode := u8 b (i + 10), sharePolicy := u8 b (i + 11), shareGrace := u8 b (i + 12),
    openMute := u8 b (i + 13), endLead := u8 b (i + 14), extStep := u8 b (i + 15) }

/-- The sixteen bytes of a profile (R196). -/
def RawProfile.bytes (p : RawProfile) : List Byte :=
  [byte p.floorMode, byte p.openLimit] ++ bytes2 p.speakLimit ++
  [byte p.warnLead, byte p.limitAction, byte p.fullAction, byte p.priorityMode, byte p.duckGain, byte p.grade,
   byte p.minutesMode, byte p.sharePolicy, byte p.shareGrace, byte p.openMute, byte p.endLead, byte p.extStep]

/-- BOOK's fields at position `i`: 27 bytes (R200). -/
def bookingAt (b : List Byte) (i : Nat) : RawBooking :=
  { startAt := u32 b i, endAt := u32 b (i + 4), organiser := u16 b (i + 8), plan := u8 b (i + 10),
    profile := profileAt b (i + 11) }

def RawBooking.bytes (b : RawBooking) : List Byte :=
  bytes4 b.startAt ++ bytes4 b.endAt ++ bytes2 b.organiser ++ [byte b.plan] ++ b.profile.bytes

/-- The target set at position `i`, when it ends exactly where the body ends (R200). -/
def targetsAt (b : List Byte) (i : Nat) : Option TargetSet :=
  if b.length = i + 2 + u8 b (i + 1) ∧ i + 2 ≤ b.length then
    some { form := u8 b i, seats := (b.drop (i + 2)).map BitVec.toNat }
  else none

def TargetSet.bytes (t : TargetSet) : List Byte :=
  [byte t.form, byte t.seats.length] ++ t.seats.map byte

/-! ### The fields of an order body (R200) -/

/-- The fields that follow the common head, in the order of R200. An event has none. -/
def Instr.fieldBytes : Instr → List Byte
  | .frameEmit => []
  | .frameReturn _ _ _ => []
  | .frameFail => []
  | .probeRound => []
  | .haltIntervalExpiry _ => []
  | .graceExpiry => []
  | .tableTimeTick => []
  | .speakLimitExpiry _ => []
  | .flashExpiry _ => []
  | .listRefreshExpiry => []
  | .cadenceTimerExpiry => []
  | .externalPresent => []
  | .externalLoss => []
  | .mainsLoss => []
  | .mainsReturn _ => []
  | .backupLow => []
  | .backupOk => []
  | .resetLineLow => []
  | .resetLineRelease _ => []
  | .restartExecute _ => []
  | .readStation _ n => [byte n]
  | .forget _ n => [byte n]
  | .haltSeat _ n => [byte n]
  | .resumeSeat _ n => [byte n]
  | .bypass _ n => [byte n]
  | .unbypass _ n => [byte n]
  | .clearCall _ n => [byte n]
  | .loadPlan _ p e c1 c2 r => [byte p] ++ seatSetBytes e ++ [byte c1, byte c2] ++ seatSetBytes r
  | .readPlan _ p => [byte p]
  | .loadWalkIn _ w => [byte w.allowed, byte w.plan] ++ w.profile.bytes ++ [byte w.length, byte w.gap]
  | .readWalkIn _ => []
  | .setClock _ t g => bytes4 t ++ bytes4 g.toNat
  | .readClock _ => []
  | .book _ b => b.bytes
  | .alter _ id b => bytes2 id ++ b.bytes
  | .cancel _ id => bytes2 id
  | .readBooking _ p => [byte p]
  | .setHorizon _ t => bytes4 t
  | .lowerHorizon _ t g => bytes4 t ++ bytes4 g.toNat
  | .eraseBookings _ g => bytes4 g.toNat
  | .setGuard _ v => bytes4 v.toNat
  | .startNow _ => []
  | .endNow _ => []
  | .extend _ => []
  | .raiseGrade _ g => [byte g]
  | .adjustSession _ f v => [byte f] ++ bytes2 v
  | .switchPlan _ p => [byte p]
  | .readSession _ => []
  | .grant _ n f => [byte n, byte f]
  | .close _ n => [byte n]
  | .closeAll _ f => [byte f]
  | .queueInsert _ n p => [byte n, byte p]
  | .queueRemove _ n => [byte n]
  | .queueClear _ => []
  | .readQueue _ p => [byte p]
  | .readChannels _ => []
  | .setGain _ b s c => [byte b, byte s, byte c]
  | .readMix _ b => [byte b]
  | .shareGrant _ n => [byte n]
  | .shareEnd _ => []
  | .shareClearWaiting _ => []
  | .panelPage _ p t => [byte p] ++ t.bytes
  | .panelText _ c l x t => [byte c, byte l, byte x.length] ++ x ++ t.bytes
  | .panelTile _ k c x y t => [byte k, byte c, byte x, byte y] ++ t.bytes
  | .panelFill _ c x0 x1 y0 y1 k t => [byte c, byte x0, byte x1, byte y0, byte y1, byte k] ++ t.bytes
  | .setClip _ x0 x1 y0 y1 t => [byte x0, byte x1, byte y0, byte y1] ++ t.bytes
  | .tileLoad _ k p d => [byte k, byte p] ++ d
  | .tileFlip _ k => [byte k]
  | .readPanel _ n => [byte n]
  | .setLogMode _ m => [byte m]
  | .setLogRange _ r e a b m => [byte r, byte e, byte a, byte b, byte m]
  | .readLog _ => []
  | .readStatus _ => []
  | .setNoticeMask _ m => bytes2 m.toNat
  | .takeNotice _ => []
  | .clearNotices _ => []
  | .loadRingPlan _ p =>
      [byte p.expected] ++ bytes2 p.period ++
      [byte p.limit, byte p.idleAllowed, byte p.contentFitted, byte p.clockSource, byte p.keepOpen]
  | .enableBackup _ => []
  | .disableBackup _ => []
  | .clearClockFault _ => []
  | .restart _ => []

/-- The body of the ORDER cell that carries an order: the common head, then its fields (R199, R200). -/
def Instr.orderBody (i : Instr) : List Byte :=
  [byte (i.orderCode.getD 0), byte ((i.head.map OrderHead.part).getD 0)] ++ i.fieldBytes

/-- The order that a code and its fields spell; none where the length does not fit the code (R187, check 3). -/
def parseOrder (h : OrderHead) (code : Nat) (f : List Byte) : Option Instr :=
  let one (k : Nat → Instr) : Option Instr := if f.length = 1 then some (k (u8 f 0)) else none
  let bare (i : Instr) : Option Instr := if f.length = 0 then some i else none
  match code with
  | 0x10 => one (.readStation h)
  | 0x11 => one (.forget h)
  | 0x12 => one (.haltSeat h)
  | 0x13 => one (.resumeSeat h)
  | 0x14 => one (.bypass h)
  | 0x15 => one (.unbypass h)
  | 0x16 => one (.clearCall h)
  | 0x20 =>
      if f.length = 23 then some (.loadPlan h (u8 f 0) (seatSetAt f 1) (u8 f 11) (u8 f 12) (seatSetAt f 13)) else none
  | 0x21 => one (.readPlan h)
  | 0x22 =>
      if f.length = 20 then
        some (.loadWalkIn h { allowed := u8 f 0, plan := u8 f 1, profile := profileAt f 2, length := u8 f 18, gap := u8 f 19 })
      else none
  | 0x23 => bare (.readWalkIn h)
  | 0x30 => if f.length = 8 then some (.setClock h (u32 f 0) (BitVec.ofNat 32 (u32 f 4))) else none
  | 0x31 => bare (.readClock h)
  | 0x32 => if f.length = 27 then some (.book h (bookingAt f 0)) else none
  | 0x33 => if f.length = 29 then some (.alter h (u16 f 0) (bookingAt f 2)) else none
  | 0x34 => if f.length = 2 then some (.cancel h (u16 f 0)) else none
  | 0x35 => one (.readBooking h)
  | 0x36 => if f.length = 4 then some (.setHorizon h (u32 f 0)) else none
  | 0x37 => if f.length = 8 then some (.lowerHorizon h (u32 f 0) (BitVec.ofNat 32 (u32 f 4))) else none
  | 0x38 => if f.length = 4 then some (.eraseBookings h (BitVec.ofNat 32 (u32 f 0))) else none
  | 0x39 => if f.length = 4 then some (.setGuard h (BitVec.ofNat 32 (u32 f 0))) else none
  | 0x40 => bare (.startNow h)
  | 0x41 => bare (.endNow h)
  | 0x42 => bare (.extend h)
  | 0x43 => one (.raiseGrade h)
  | 0x44 => if f.length = 3 then some (.adjustSession h (u8 f 0) (u16 f 1)) else none
  | 0x45 => one (.switchPlan h)
  | 0x46 => bare (.readSession h)
  | 0x50 => if f.length = 2 then some (.grant h (u8 f 0) (u8 f 1)) else none
  | 0x51 => one (.close h)
  | 0x52 => one (.closeAll h)
  | 0x53 => if f.length = 2 then some (.queueInsert h (u8 f 0) (u8 f 1)) else none
  | 0x54 => one (.queueRemove h)
  | 0x55 => bare (.queueClear h)
  | 0x56 => one (.readQueue h)
  | 0x57 => bare (.readChannels h)
  | 0x60 => if f.length = 3 then some (.setGain h (u8 f 0) (u8 f 1) (u8 f 2)) else none
  | 0x61 => one (.readMix h)
  | 0x68 => one (.shareGrant h)
  | 0x69 => bare (.shareEnd h)
  | 0x6A => bare (.shareClearWaiting h)
  | 0x70 => (targetsAt f 1).map (.panelPage h (u8 f 0))
  | 0x71 =>
      if 3 + u8 f 2 ≤ f.length then
        (targetsAt f (3 + u8 f 2)).map (.panelText h (u8 f 0) (u8 f 1) ((f.drop 3).take (u8 f 2)))
      else none
  | 0x72 => (targetsAt f 4).map (.panelTile h (u8 f 0) (u8 f 1) (u8 f 2) (u8 f 3))
  | 0x73 => (targetsAt f 6).map (.panelFill h (u8 f 0) (u8 f 1) (u8 f 2) (u8 f 3) (u8 f 4) (u8 f 5))
  | 0x74 => (targetsAt f 4).map (.setClip h (u8 f 0) (u8 f 1) (u8 f 2) (u8 f 3))
  | 0x75 => if f.length = 18 then some (.tileLoad h (u8 f 0) (u8 f 1) (f.drop 2)) else none
  | 0x76 => one (.tileFlip h)
  | 0x77 => one (.readPanel h)
  | 0x80 => one (.setLogMode h)
  | 0x81 => if f.length = 5 then some (.setLogRange h (u8 f 0) (u8 f 1) (u8 f 2) (u8 f 3) (u8 f 4)) else none
  | 0x82 => bare (.readLog h)
  | 0x90 => bare (.readStatus h)
  | 0x91 => if f.length = 2 then some (.setNoticeMask h (BitVec.ofNat 16 (u16 f 0))) else none
  | 0x92 => bare (.takeNotice h)
  | 0x93 => bare (.clearNotices h)
  | 0x94 =>
      if f.length = 8 then
        some (.loadRingPlan h { expected := u8 f 0, period := u16 f 1, limit := u8 f 3, idleAllowed := u8 f 4,
                                contentFitted := u8 f 5, clockSource := u8 f 6, keepOpen := u8 f 7 })
      else none
  | 0x95 => bare (.enableBackup h)
  | 0x96 => bare (.disableBackup h)
  | 0x97 => bare (.clearClockFault h)
  | 0x98 => bare (.restart h)
  | _ => none

end Sys2Proof
end

