-- ==== Sys2Proof/Machine/State.lean ====
section
/-! DEFINITION. Machine/State.lean: the state of the TC480 as plain data, block by block as 00_scope.md lists the
blocks, and the state right after reset. Every field's rule and reset value stand in INVENTORY.md. -/

namespace Sys2Proof.Machine

/-! ### Why a step can stop -/

/-- No command of the TC480 stops the machine: the manual gives every one an effect, or an answer, in every state
(log 36). So there is no reason to fault. -/
inductive Fault where
  deriving DecidableEq, Repr

/-- Refusals. -/
inductive Refusal where
  /-- A command whose meaning is not written yet, by its mnemonic. No arm of exec raises it. Safe. -/
  | notModelled (mnemonic : String)
  deriving DecidableEq, Repr

/-! ### Small enumerations -/

/-- R204. -/
inductive Supply where
  | run
  | hold
  | off
  deriving DecidableEq, Repr

/-- The two restarts that a mains return causes (R208), waited for while NRST is low (R209). -/
inductive Awaited where
  | coldStart
  | supplyReturn
  deriving DecidableEq, Repr

/-- R191: the four start causes, in their priority order. -/
inductive StartCause where
  | coldStart
  | supplyReturn
  | resetLine
  | restartOrder
  deriving DecidableEq, Repr

/-- R130. -/
inductive ClockSource where
  | internal
  | external
  deriving DecidableEq, Repr

/-- R206. -/
inductive Cadence where
  | full
  | idle
  deriving DecidableEq, Repr

/-- R51. -/
inductive FloorMode where
  | queue
  | chair
  | free
  deriving DecidableEq, Repr

inductive LimitAction where
  | close
  | flag
  deriving DecidableEq, Repr

inductive FullAction where
  | refuse
  | replace
  | wait
  deriving DecidableEq, Repr

/-- The priority mode of a profile, and the hold mode of R112. -/
inductive PriorityMode where
  | duck
  | close
  deriving DecidableEq, Repr

inductive MinutesMode where
  | strict
  | loose
  deriving DecidableEq, Repr

inductive SharePolicy where
  | speaker
  | right
  deriving DecidableEq, Repr

/-- The causes and reasons of minute records and of channels (R202). -/
inductive Reason where
  | time
  | reconcile
  | self
  | order
  | outage
  | chair
  | dropped
  | queue
  | free
  | priority
  | limit
  | replaced
  | lost
  | plan
  | session
  | grace
  deriving DecidableEq, Repr

/-- R189: the statuses of an ANSWER. -/
inductive Status where
  | done
  | unknown
  | malformed
  | range
  | noRight
  | noSession
  | state
  | full
  | overlap
  | frozen
  | guardLock
  | logFull
  | busy
  | absent
  deriving DecidableEq, Repr

/-! ### Hold domain: calendar, plans, walk-in profile (chapters 2 and 3) -/

/-- A session profile whose fields are in range (R35, R51). -/
structure Profile where
  floorMode    : FloorMode
  openLimit    : Nat
  speakLimit   : Nat
  warnLead     : Nat
  limitAction  : LimitAction
  fullAction   : FullAction
  priorityMode : PriorityMode
  duckGain     : Nat
  grade        : Nat
  minutesMode  : MinutesMode
  sharePolicy  : SharePolicy
  shareGrace   : Nat
  openMute     : Bool
  endLead      : Nat
  extStep      : Nat
  deriving DecidableEq, Repr

/-- A booking record (R32). `walkIn`: the kind; `live`: the state. -/
structure Booking where
  id        : Nat
  startAt   : Nat
  endAt     : Nat
  organiser : Nat
  walkIn    : Bool
  plan      : Nat
  profile   : Profile
  live      : Bool
  grade     : Nat
  used      : Nat
  deriving DecidableEq, Repr

/-- A seat plan (R65). -/
structure Plan where
  enabled    : SeatSet
  chairs     : List Nat
  shareRight : SeatSet
  deriving DecidableEq, Repr

/-- The walk-in profile (R70): length and gap in minutes. -/
structure WalkIn where
  allowed : Bool
  plan    : Nat
  profile : Profile
  length  : Nat
  gap     : Nat
  deriving DecidableEq, Repr

/-- The hold domain (00_scope.md, Power domains). -/
structure Hold where
  tableTime    : Nat
  clockValid   : Bool
  bookings     : List Booking
  nextId       : Nat
  horizon      : Nat
  guard        : BitVec 32
  guardSet     : Bool
  backupEnable : Bool
  plans        : Vector Plan 8
  walkIn       : WalkIn
  deriving DecidableEq, Repr

/-! ### Station unit (chapter 1) -/

/-- R11. -/
inductive StationState where
  | vacant
  | joining
  | present
  | silent
  | halted
  | bypassed
  deriving DecidableEq, Repr

/-- The capabilities of a JOIN (R11, R198). -/
structure Caps where
  screen  : Bool
  content : Bool
  deriving DecidableEq, Repr

/-- The unit status of an ECHO (R11, R198). -/
structure EchoStatus where
  mic     : Bool
  content : Bool
  deriving DecidableEq, Repr

/-- A station record (R11). `haltOver`: 100 ms have passed since the halt time (R20, log 5). -/
structure Station where
  identity   : Option Identity
  caps       : Option Caps
  echo       : Option EchoStatus
  state      : StationState
  missed     : Nat
  call       : Bool
  haltTime   : Option (BitVec 32)
  haltOver   : Bool
  heldResume : Bool
  deriving DecidableEq, Repr

/-- The ring plan (R26). -/
structure RingPlan where
  expected      : Nat
  period        : Nat
  limit         : Nat
  idleAllowed   : Bool
  contentFitted : Bool
  clockSource   : ClockSource
  keepOpen      : Bool
  deriving DecidableEq, Repr

/-- A probe round that has not ended (R15, R27): the numbers whose PROBE of this round is still out, and whether a
session has been LIVE during the round. -/
structure Round where
  out  : List Nat
  live : Bool
  deriving DecidableEq, Repr

structure StationUnit where
  records : Vector Station 83
  rounds  : List Round
  period  : Nat
  plan    : RingPlan
  locked  : Bool
  short   : Bool
  deriving DecidableEq, Repr

/-! ### Session controller (chapter 3) -/

/-- R50. -/
inductive Phase where
  | live
  | warned
  | ending
  deriving DecidableEq, Repr

/-- The session context (R50). The priority holder count is the size of the holding set (R94) and is kept there. -/
structure Session where
  id        : Nat
  walkIn    : Bool
  organiser : Nat
  plan      : Nat
  profile   : Profile
  grade     : Nat
  mode      : MinutesMode
  endAt     : Nat
  warnAt    : Nat
  phase     : Phase
  resumed   : Bool
  deriving DecidableEq, Repr

/-! ### Channel allocator (chapter 5) -/

inductive Category where
  | delegate
  | chair
  deriving DecidableEq, Repr

/-- A speak timer (R108). `due`: a decrement has brought it to 0 and its limit action has not yet been carried out
(R111, log 10). -/
structure SpeakTimer where
  remaining : Nat
  lead      : Nat
  action    : LimitAction
  due       : Bool
  deriving DecidableEq, Repr

/-- A held channel (R94). -/
structure Channel where
  seat       : Nat
  category   : Category
  cause      : Reason
  openedAt   : Nat
  mute       : Bool
  timer      : Option SpeakTimer
  warned     : Bool
  suppressed : Bool
  deriving DecidableEq, Repr

structure Channels where
  table    : Vector (Option Channel) 8
  order    : List Nat
  holders  : List Nat
  holdMode : Option PriorityMode
  deferred : Option Nat
  deriving DecidableEq, Repr

/-! ### Mix engine (chapter 6) -/

/-- One sample for each downlink slot (R2, R122). -/
structure Buses where
  floor  : Sample
  chair  : Sample
  record : Sample
  far    : Sample
  deriving DecidableEq, Repr

/-- The mix engine. `codes` is bus by bus, ten sources each (R123); `formed` waits for the next frame (R126). -/
structure Mix where
  codes     : Vector Nat 40
  clips     : Vector Nat 4
  selection : ClockSource
  inUse     : ClockSource
  fault     : Bool
  present   : Bool
  formed    : Option Buses
  deriving DecidableEq, Repr

/-! ### Share controller (chapter 7) -/

inductive Basis where
  | speaker
  | unbound
  deriving DecidableEq, Repr

/-- The holder of the content lane (R135). -/
structure Holder where
  seat  : Nat
  basis : Basis
  far   : Bool
  deriving DecidableEq, Repr

/-- The share controller. `grace`: the length in seconds of a running grace timer (R143). -/
structure Share where
  holder   : Option Holder
  waiting  : List Nat
  grace    : Option Nat
  deferred : Option Nat
  deriving DecidableEq, Repr

/-! ### Panel engine (chapter 8) -/

inductive Page where
  | speakers
  | queue
  | agenda
  | message
  | share
  | blank
  deriving DecidableEq, Repr

inductive Canvas where
  | agenda
  | message
  deriving DecidableEq, Repr

/-- R90, and REFUSED of R152. -/
inductive Lamp where
  | off
  | waiting
  | next
  | live
  | warn
  | suppressed
  | refused
  deriving DecidableEq, Repr

/-- The content of a LAMP cell (R152). `chairBus`: the bus is CHAIR, and FLOOR otherwise. -/
structure LampContent where
  lamp     : Lamp
  call     : Bool
  chairBus : Bool
  deriving DecidableEq, Repr

/-- A clip window (R149). -/
structure Window where
  x0 : Nat
  x1 : Nat
  y0 : Nat
  y1 : Nat
  deriving DecidableEq, Repr

/-- A panel record (R149). -/
structure PanelRecord where
  page      : Page
  window    : Window
  lampDirty : Bool
  pageDirty : Bool
  listDirty : Bool
  lampSent  : Option LampContent
  flash     : Bool
  deriving DecidableEq, Repr

/-- A bank of a tile (R159): the sixteen pieces, each written since the bank became EMPTY or not. -/
abbrev Bank := Vector (Option (List Byte)) 16

structure Tile where
  front : Bank
  back  : Bank
  deriving DecidableEq, Repr

/-- What a staged order draws (R162, R163). -/
inductive PanelOp where
  | page (p : Page)
  | text (canvas : Canvas) (line : Nat) (text : List Byte)
  | tile (tile : Nat) (canvas : Canvas) (x y : Nat)
  | fill (canvas : Canvas) (x0 x1 y0 y1 : Nat) (set : Bool)
  deriving DecidableEq, Repr

/-- A target set whose form and seats are in range (R161). -/
inductive Targets where
  | list (seats : List Nat)
  | all
  | chairs
  deriving DecidableEq, Repr

/-- An order in the staging slot (R161), held as it arrived. -/
structure Staged where
  op      : PanelOp
  targets : Targets
  deriving DecidableEq, Repr

/-- The body of a PANEL cell (R198). -/
inductive PieceBody where
  | page (p : Page)
  | text (canvas : Canvas) (line : Nat) (text : List Byte)
  | tile (canvas : Canvas) (x y piece rowMask firstCol lastCol : Nat) (data : List Byte)
  | fill (canvas : Canvas) (x0 x1 y0 y1 : Nat) (set : Bool)
  deriving DecidableEq, Repr

/-- The executor's job (R165). The current seat is the first of `targets`; `built` is the piece that has missed and
is to be offered again. -/
structure Job where
  op       : PanelOp
  targets  : List Nat
  piece    : Nat
  inFlight : Bool
  misses   : Nat
  clipped  : Bool
  built    : Option PieceBody
  deriving DecidableEq, Repr

inductive Turn where
  | refresh
  | pieces
  deriving DecidableEq, Repr

structure Panel where
  records : Vector PanelRecord 80
  tiles   : Vector Tile 96
  staged  : Option Staged
  job     : Option Job
  refresh : Bool
  turn    : Turn
  deriving DecidableEq, Repr

/-! ### Minutes unit (chapter 9) -/

/-- R171. -/
inductive RecKind where
  | start
  | endd
  | extended
  | grade
  | plan
  | gap
  | micOpen
  | micClose
  | request
  | withdraw
  | shareStart
  | shareEnd
  deriving DecidableEq, Repr

/-- The detail that a kind requires (R171). -/
inductive Detail where
  | start (id organiser plan grade : Nat) (resumed : Bool)
  | endd (id : Nat)
  | extended (id newEnd : Nat)
  | grade (id grade : Nat)
  | plan (id plan : Nat)
  | gap (count : Nat)
  deriving DecidableEq, Repr

/-- A minute record (R170). -/
structure MinuteRecord where
  seq      : Nat
  time     : Nat
  kind     : RecKind
  seat     : Option Nat
  channel  : Option Nat
  reason   : Reason
  duration : Option Nat
  detail   : Option Detail
  deriving DecidableEq, Repr

/-- A log range (R172): the class mask as it is carried, bit 0 SPEECH, bit 1 FLOOR, bit 2 SHARE. -/
structure LogRange where
  enabled : Bool
  first   : Nat
  last    : Nat
  mask    : BitVec 3
  deriving DecidableEq, Repr

/-- The minutes unit. `flight`: a MINUTE is in flight, with its forfeit flag (R182). -/
structure Minutes where
  queue   : List MinuteRecord
  nextSeq : Nat
  rangeA  : LogRange
  rangeB  : LogRange
  drop    : Nat
  credits : Nat
  flight  : Option Bool
  deriving DecidableEq, Repr

/-! ### The ring unit and its scheduler (chapter 1) -/

/-- R5: what a waiting mark names. -/
inductive Mark where
  | mic (seat : Nat)
  | laneSeat (seat : Nat)
  | laneBridge
  deriving DecidableEq, Repr

/-- An ANSWER cell (R189, R199). -/
structure Answer where
  dest   : Nat
  tag    : Nat
  code   : Nat
  status : Status
  part   : Nat
  parts  : Nat
  result : List Byte
  deriving DecidableEq, Repr

/-- Class 2. An ALERT is built when it is placed (R192). -/
inductive Class2 where
  | answer (a : Answer)
  | alert
  deriving DecidableEq, Repr

/-- Class 3. `sends` counts how often a cell has been sent before (R9). -/
inductive StationCell where
  | assign
  | number (id : Identity) (given : Nat)
  | probe (number : Nat)
  | halt (number sends : Nat)
  | resume (number sends : Nat)
  | bypass (number sends : Nat)
  | unbypass (number : Nat) (id : Option Identity) (sends : Nat)
  | resumeAll
  | unbypassAll
  deriving DecidableEq, Repr

/-- An entry of a LIST cell (R155, R203), with the state's code. -/
structure ListEntry where
  seat  : Nat
  state : Nat
  value : Nat
  deriving DecidableEq, Repr

/-- A controller cell, built. -/
inductive OutCell where
  | mic (seat : Nat) (held : Option (Nat × Bool))
  | laneSeat (seat : Nat) (on : Bool)
  | laneBridge (holder : Nat) (far : Bool)
  | answer (a : Answer)
  | alert (cause : Nat)
  | station (c : StationCell)
  | lamp (seat : Nat) (content : LampContent)
  | list (seat : Nat) (entries : List ListEntry)
  | page (seat : Nat) (p : Page)
  /-- A piece of the executor's job. `counts`: its outcome is the job's; it is not once its seat has been dropped while
  the piece waits (R166). -/
  | piece (seat : Nat) (counts : Bool) (body : PieceBody)
  | minute (r : MinuteRecord)
  deriving DecidableEq, Repr

/-- A frame that is out on the ring (R2, R6): the slots as it was emitted, `up` those that the mix engine only reads
(M0 to M7, SHARE-audio and FAR-IN, R121) and `down` those that it writes. -/
structure Flight where
  number  : Nat
  cell    : Option OutCell
  up      : Slots
  down    : Buses
  cadence : Cadence
  clock   : ClockSource
  deriving DecidableEq, Repr

/-- The ring unit. `fresh`: no frame has gone out since the restart (R206: the first goes out at IDLE cadence; log 43). -/
structure Ring where
  nextFrame : Nat
  fresh     : Bool
  flight    : Option Flight
  failures  : Nat
  broken    : Bool
  badCells  : Nat
  deriving DecidableEq, Repr

/-- The producers of class 4 (R5). -/
inductive Producer where
  | presentation
  | minutes
  deriving DecidableEq, Repr

/-- The outbound scheduler (R4, R5): each class in the order of offer; `presentation` is the one LAMP, LIST or PANEL cell
that waits, built at its offer (R152, R155, R167), `minute` the MINUTE that waits, and `last4` took the previous class-4
placement. -/
structure Sched where
  class1       : List Mark
  class2       : List Class2
  class3       : List StationCell
  presentation : Option OutCell
  minute       : Option MinuteRecord
  last4        : Producer
  deriving DecidableEq, Repr

/-! ### Order unit (chapter 10) and supply and cadence unit (chapter 11) -/

/-- An entry of the notice set (R190). -/
structure Notice where
  pending : Bool
  event   : Nat
  value   : Nat
  count   : Nat
  deriving DecidableEq, Repr

/-- R192: at most one ALERT waiting or in flight. -/
inductive AlertState where
  | none
  | waiting
  | inFlight
  deriving DecidableEq, Repr

/-- The order unit. `notices` holds causes 2 to 11 in order; START is `starts` (R191). `inbound` holds orders alone. -/
structure OrderUnit where
  inbound : List Instr
  notices : Vector Notice 10
  starts  : List StartCause
  mask    : BitVec 16
  alert   : AlertState
  deriving DecidableEq, Repr

/-- R210: a pending restart waits for the frame of its ANSWER, and is then ready to be carried out. -/
inductive PendingRestart where
  | absent
  | answering
  | ready
  deriving DecidableEq, Repr

structure SupplyUnit where
  backup  : BackupCond
  cadence : Cadence
  timer   : Bool
  restart : PendingRestart
  deriving DecidableEq, Repr

/-! ### The machine -/

structure State where
  supply    : Supply
  nrstLow   : Bool
  awaited   : Option Awaited
  hold      : Hold
  ring      : Ring
  sched     : Sched
  stn       : StationUnit
  guardLock : Bool
  ctx       : Option Session
  queue     : List Nat
  chan      : Channels
  mix       : Mix
  share     : Share
  panel     : Panel
  minutes   : Minutes
  orders    : OrderUnit
  sup       : SupplyUnit
  /-- The model's own: how many free values have been drawn (log 39). -/
  freeCount : Nat
  /-- The commands waiting, first in first out (log 39). -/
  pending   : List Instr
  deriving DecidableEq, Repr

/-! ### Reset values -/

/-- R70, the cold-start profile. -/
def Profile.walkInDefault : Profile :=
  { floorMode := .queue, openLimit := 4, speakLimit := 0, warnLead := 30, limitAction := .close, fullAction := .refuse,
    priorityMode := .duck, duckGain := 20, grade := 0, minutesMode := .loose, sharePolicy := .speaker, shareGrace := 10,
    openMute := true, endLead := 5, extStep := 15 }

/-- R65: all 80 seats enabled, no chair seats, share right for all 80. -/
def Plan.default : Plan := { enabled := BitVec.allOnes 80, chairs := [], shareRight := BitVec.allOnes 80 }

/-- The cold-start values of the hold domain (R208). -/
def Hold.cold : Hold :=
  { tableTime := 0, clockValid := false, bookings := [], nextId := 1, horizon := 0, guard := 0, guardSet := false,
    backupEnable := false, plans := Vector.replicate 8 Plan.default,
    walkIn := { allowed := false, plan := 0, profile := Profile.walkInDefault, length := 60, gap := 5 } }

/-- R11: a record after every restart kind. -/
def Station.vacant : Station :=
  { identity := none, caps := none, echo := none, state := .vacant, missed := 0, call := false, haltTime := none,
    haltOver := false, heldResume := false }

/-- R26, the default ring plan. -/
def RingPlan.default : RingPlan :=
  { expected := 80, period := 200, limit := 3, idleAllowed := true, contentFitted := true, clockSource := .internal,
    keepOpen := false }

/-- Section 1.12. -/
def StationUnit.cleared : StationUnit :=
  { records := Vector.replicate 83 Station.vacant, rounds := [], period := 200, plan := RingPlan.default,
    locked := false, short := false }

/-- Section 1.12, R206. -/
def Ring.cleared : Ring := { nextFrame := 0, fresh := true, flight := none, failures := 0, broken := false, badCells := 0 }

/-- R4, R5: no cells, and the next class-4 placement favours presentation. -/
def Sched.cleared : Sched := { class1 := [], class2 := [], class3 := [], presentation := none, minute := none, last4 := .minutes }

/-- R94. -/
def Channels.cleared : Channels :=
  { table := Vector.replicate 8 none, order := [], holders := [], holdMode := none, deferred := none }

/-- R123, R128, R130: every code 40 but FAR-IN on FAR, which is the last of the 40. -/
def Mix.cleared : Mix :=
  { codes := (Vector.replicate 40 40).set 39 0, clips := Vector.replicate 4 0, selection := .internal,
    inUse := .internal, fault := false, present := false, formed := none }

/-- R135. -/
def Share.cleared : Share := { holder := none, waiting := [], grace := none, deferred := none }

/-- R149: the full canvas. -/
def Window.full : Window := { x0 := 0, x1 := 255, y0 := 0, y1 := 127 }

/-- R149. -/
def PanelRecord.cleared : PanelRecord :=
  { page := .blank, window := Window.full, lampDirty := false, pageDirty := false, listDirty := false, lampSent := none,
    flash := false }

/-- R159: EMPTY with an empty mask. -/
def Bank.empty : Bank := Vector.replicate 16 none

/-- R149, R157, R159, R161, R165, R167. -/
def Panel.cleared : Panel :=
  { records := Vector.replicate 80 PanelRecord.cleared,
    tiles := Vector.replicate 96 { front := Bank.empty, back := Bank.empty },
    staged := none, job := none, refresh := false, turn := .refresh }

/-- Section 9.10. -/
def Minutes.cleared : Minutes :=
  { queue := [], nextSeq := 0, rangeA := { enabled := true, first := 1, last := 80, mask := 7 },
    rangeB := { enabled := false, first := 1, last := 80, mask := 7 }, drop := 0, credits := 0, flight := none }

/-- R190: not pending, count 0 (event and value: log 19). -/
def Notice.clear : Notice := { pending := false, event := 0, value := 0, count := 0 }

/-- R188, R190, R192, R194, before a restart puts its causes in the list. -/
def OrderUnit.cleared : OrderUnit :=
  { inbound := [], notices := Vector.replicate 10 Notice.clear, starts := [], mask := 0, alert := .none }

/-- R206, R207, R210. -/
def SupplyUnit.cleared (reading : BackupCond) : SupplyUnit :=
  { backup := reading, cadence := .idle, timer := false, restart := .absent }

/-- R28: the two cells that the station unit offers in the first frames after a restart. -/
def recallCells : List StationCell := [.resumeAll, .unbypassAll]

/-- The part right after a cold start whose backup cell reads OK (R208, log 1). -/
def State.reset : State :=
  { supply := .run, nrstLow := false, awaited := none, hold := Hold.cold, ring := Ring.cleared,
    sched := { Sched.cleared with class3 := recallCells }, stn := StationUnit.cleared, guardLock := false, ctx := none,
    queue := [], chan := Channels.cleared, mix := Mix.cleared, share := Share.cleared, panel := Panel.cleared,
    minutes := Minutes.cleared, orders := { OrderUnit.cleared with starts := [.coldStart] },
    sup := SupplyUnit.cleared .ok, freeCount := 0, pending := [] }

end Sys2Proof.Machine
end

