-- ==== Sys2Proof/Machine/Ops.lean ====
section
/-! DEFINITION. Machine/Ops.lean: the named accesses to the state that every family uses: the updates block by block,
the tables by number, the scheduler's offers (R4, R5), and the notice set with its ALERT (R190 to R192). -/

namespace Sys2Proof.Machine

/-! ### Updates, one per block -/

def State.setSupply (s : State) (x : Supply) : State := { s with supply := x }
def State.setNrst (s : State) (x : Bool) : State := { s with nrstLow := x }
def State.setAwaited (s : State) (x : Option Awaited) : State := { s with awaited := x }
def State.setHold (s : State) (x : Hold) : State := { s with hold := x }
def State.setRing (s : State) (x : Ring) : State := { s with ring := x }
def State.setSched (s : State) (x : Sched) : State := { s with sched := x }
def State.setStn (s : State) (x : StationUnit) : State := { s with stn := x }
def State.setGuardLock (s : State) (x : Bool) : State := { s with guardLock := x }
def State.setCtx (s : State) (x : Option Session) : State := { s with ctx := x }
def State.setQueue (s : State) (x : List Nat) : State := { s with queue := x }
def State.setChan (s : State) (x : Channels) : State := { s with chan := x }
def State.setMix (s : State) (x : Mix) : State := { s with mix := x }
def State.setShare (s : State) (x : Share) : State := { s with share := x }
def State.setPanel (s : State) (x : Panel) : State := { s with panel := x }
def State.setMinutes (s : State) (x : Minutes) : State := { s with minutes := x }
def State.setOrders (s : State) (x : OrderUnit) : State := { s with orders := x }
def State.setSup (s : State) (x : SupplyUnit) : State := { s with sup := x }
def State.setFree (s : State) (x : Nat) : State := { s with freeCount := x }
def State.setPending (s : State) (x : List Instr) : State := { s with pending := x }

/-! ### Tables by number -/

/-- The seats, 1 to 80. -/
def seatNumbers : List Nat := List.range' 1 80

/-- The station numbers, 1 to 83 (R11). -/
def stationNumbers : List Nat := List.range' 1 83

/-- Whether a number is a seat's (00_scope.md, Address plan). -/
def isSeat (n : Nat) : Bool := decide (1 ≤ n) && decide (n ≤ 80)

/-- Record `n` of the station table; a number outside 1 to 83 has none and reads as VACANT. -/
def station (s : State) (n : Nat) : Station :=
  if n = 0 then Station.vacant else (s.stn.records[n - 1]?).getD Station.vacant

/-- Write record `n`; a number outside 1 to 83 has none. -/
def setStation (n : Nat) (r : Station) (s : State) : State :=
  if n = 0 then s else s.setStn { s.stn with records := s.stn.records.setIfInBounds (n - 1) r }

/-- Whether other blocks count station `n` as present (R11). -/
def present (s : State) (n : Nat) : Bool := decide ((station s n).state = .present)

/-- The panel record of seat `n`. -/
def panelOf (s : State) (n : Nat) : PanelRecord :=
  if n = 0 then PanelRecord.cleared else (s.panel.records[n - 1]?).getD PanelRecord.cleared

/-- Write the panel record of seat `n`. -/
def setPanelOf (n : Nat) (r : PanelRecord) (s : State) : State :=
  if n = 0 then s else s.setPanel { s.panel with records := s.panel.records.setIfInBounds (n - 1) r }

/-- Change every panel record by its own content. -/
def mapPanels (f : PanelRecord → PanelRecord) (s : State) : State :=
  s.setPanel { s.panel with records := s.panel.records.map f }

/-- Seat plan `p` (R65). -/
def planAt (s : State) (p : Nat) : Plan := (s.hold.plans[p]?).getD Plan.default

/-- Tile `t` (R159). -/
def tileAt (s : State) (t : Nat) : Tile := (s.panel.tiles[t]?).getD { front := Bank.empty, back := Bank.empty }

/-- Channel `c` of the channel table (R94). -/
def channelAt (s : State) (c : Nat) : Option Channel := (s.chan.table[c]?).getD none

/-- Write channel `c`. -/
def setChannel (c : Nat) (e : Option Channel) (s : State) : State :=
  s.setChan { s.chan with table := s.chan.table.setIfInBounds c e }

/-- The gain code of a bus and a source (R123). -/
def gainCode (s : State) (bus source : Nat) : Nat := (s.mix.codes[bus * 10 + source]?).getD 0

/-- The clip count of a bus (R128). -/
def clipCount (s : State) (bus : Nat) : Nat := (s.mix.clips[bus]?).getD 0

/-! ### Whether the main domain runs -/

/-- The main domain is powered and out of reset: RUN, and NRST not low (R204, R209). -/
def mainRunning (s : State) : Bool := decide (s.supply = .run) && !s.nrstLow

/-! ### The session as other blocks read it -/

/-- The context in state LIVE or WARNED: "a session is LIVE" (R50). -/
def liveCtx (s : State) : Option Session :=
  match s.ctx with
  | none => none
  | some c => if c.phase = .ending then none else some c

def sessionLive (s : State) : Bool := (liveCtx s).isSome

/-- Whether the seat is enabled in the active plan of a LIVE session. -/
def enabledSeat (s : State) (n : Nat) : Bool :=
  match liveCtx s with
  | none => false
  | some c => (planAt s c.plan).enabled.has n

/-- The chair seats of the active plan; none with no session LIVE (R76). -/
def chairSeats (s : State) : List Nat :=
  match liveCtx s with
  | none => []
  | some c => (planAt s c.plan).chairs

def chairSeat (s : State) (n : Nat) : Bool := (chairSeats s).contains n

/-- Whether the seat is in the share-right set of the active plan. -/
def hasShareRight (s : State) (n : Nat) : Bool :=
  match liveCtx s with
  | none => false
  | some c => (planAt s c.plan).shareRight.has n

/-- A screen seat carries the capability "has screen" (R149). -/
def screenSeat (s : State) (n : Nat) : Bool :=
  match (station s n).caps with
  | none => false
  | some c => isSeat n && c.screen

/-- The LIVE entry of the booking table (R33). -/
def liveEntry (s : State) : Option Booking := s.hold.bookings.find? Booking.live

/-! ### The outbound scheduler (R4, R5) -/

/-- Offer a mark. A mark already waiting keeps its place and a further one changes nothing (R5). -/
def offerMark (m : Mark) (s : State) : State :=
  if m ∈ s.sched.class1 then s else s.setSched { s.sched with class1 := s.sched.class1 ++ [m] }

def offer2 (c : Class2) (s : State) : State := s.setSched { s.sched with class2 := s.sched.class2 ++ [c] }

def offer3 (c : StationCell) (s : State) : State := s.setSched { s.sched with class3 := s.sched.class3 ++ [c] }

/-! ### The notice set (R190 to R192) -/

/-- The causes that blocks raise, 2 to 11 (R190). -/
inductive Cause where
  | ring
  | guardFault
  | clock
  | backup
  | session
  | station
  | call
  | log
  | floor
  | panel
  deriving DecidableEq, Repr

/-- The cause number, which is also its priority (R190). -/
def Cause.num : Cause → Nat
  | .ring => 2
  | .guardFault => 3
  | .clock => 4
  | .backup => 5
  | .session => 6
  | .station => 7
  | .call => 8
  | .log => 9
  | .floor => 10
  | .panel => 11

/-- The entry of cause `n`, 2 to 11. -/
def noticeAt (s : State) (n : Nat) : Notice :=
  if n < 2 then Notice.clear else (s.orders.notices[n - 2]?).getD Notice.clear

def setNotice (n : Nat) (x : Notice) (s : State) : State :=
  if n < 2 then s else s.setOrders { s.orders with notices := s.orders.notices.setIfInBounds (n - 2) x }

/-- Whether cause `n`, 1 to 11, is pending; START is pending while its list is not empty (R191). -/
def causePending (s : State) (n : Nat) : Bool :=
  if n = 1 then !s.orders.starts.isEmpty else (noticeAt s n).pending

/-- Whether cause `n` is masked: bit n - 1 of the mask (R194, R196). -/
def causeMasked (s : State) (n : Nat) : Bool := s.orders.mask.getLsbD (n - 1)

/-- The number of the highest cause pending and not masked, 0 for none (R190, R192). -/
def highestCause (s : State) : Nat :=
  ((List.range' 1 11).find? fun n => causePending s n && !causeMasked s n).getD 0

/-- R192: an ALERT is offered to a PRESENT room station when some cause is pending and unmasked and no ALERT is
waiting or in flight. -/
def offerAlert (s : State) : State :=
  if present s 81 = true ∧ highestCause s ≠ 0 ∧ s.orders.alert = .none then
    offer2 .alert (s.setOrders { s.orders with alert := .waiting })
  else s

/-- R190: a raise makes the cause pending, or replaces its event and value and counts; R192: it alerts when no cause
was pending and unmasked before. -/
def raise (c : Cause) (event value : Nat) (s : State) : State :=
  let n := noticeAt s c.num
  let new : Notice :=
    if n.pending then { pending := true, event := event, value := value, count := bump 255 n.count }
    else { pending := true, event := event, value := value, count := 1 }
  let t := setNotice c.num new s
  if highestCause s = 0 then offerAlert t else t

/-! ### Free values -/

/-- A table time computed exactly as `x`: itself where it lies in the range of table time, and otherwise a free value
(log 6). -/
def drawTime (x : Int) (s : State) : Nat × State :=
  if 0 ≤ x ∧ x ≤ (Config.maxTime : Int) then (x.toNat, s)
  else ((Config.timeOutside s.freeCount).toNat, s.setFree (s.freeCount + 1))

end Sys2Proof.Machine
end

