-- ==== Sys2Proof/Machine/Operands.lean ====
section
/-! DEFINITION. Machine/Operands.lean: the operand forms of the orders. A field as the wire carries it becomes the
value it stands for, or none where it lies outside its values (R35, R161, R196), for which the owner answers RANGE. -/

namespace Sys2Proof.Machine

/-- A flag (R196): 0 or 1. -/
def flagOf (n : Nat) : Option Bool := if n = 0 then some false else if n = 1 then some true else none

def floorModeOf (n : Nat) : Option FloorMode :=
  if n = 0 then some .queue else if n = 1 then some .chair else if n = 2 then some .free else none

def limitActionOf (n : Nat) : Option LimitAction :=
  if n = 0 then some .close else if n = 1 then some .flag else none

def fullActionOf (n : Nat) : Option FullAction :=
  if n = 0 then some .refuse else if n = 1 then some .replace else if n = 2 then some .wait else none

def priorityModeOf (n : Nat) : Option PriorityMode :=
  if n = 0 then some .duck else if n = 1 then some .close else none

def minutesModeOf (n : Nat) : Option MinutesMode :=
  if n = 0 then some .strict else if n = 1 then some .loose else none

def sharePolicyOf (n : Nat) : Option SharePolicy :=
  if n = 0 then some .speaker else if n = 1 then some .right else none

def clockSourceOf (n : Nat) : Option ClockSource :=
  if n = 0 then some .internal else if n = 1 then some .external else none

def pageOf (n : Nat) : Option Page :=
  if n = 0 then some .speakers else if n = 1 then some .queue else if n = 2 then some .agenda
  else if n = 3 then some .message else if n = 4 then some .share else if n = 5 then some .blank else none

def canvasOf (n : Nat) : Option Canvas := if n = 0 then some .agenda else if n = 1 then some .message else none

/-! The ranges of R35, field by field; ADJUST SESSION uses the same (R69). -/

def openLimitOk (n : Nat) : Bool := decide (1 ≤ n) && decide (n ≤ 6)
def speakLimitOk (n : Nat) : Bool := n == 0 || (decide (15 ≤ n) && decide (n ≤ 1800))
def warnLeadOk (n : Nat) : Bool := decide (10 ≤ n) && decide (n ≤ 120)
def duckGainOk (n : Nat) : Bool := decide (n ≤ 40)
def gradeOk (n : Nat) : Bool := decide (n ≤ 3)
def shareGraceOk (n : Nat) : Bool := decide (n ≤ 60)
def endLeadOk (n : Nat) : Bool := decide (n ≤ 15)
def extStepOk (n : Nat) : Bool := decide (5 ≤ n) && decide (n ≤ 60)

/-- A profile all of whose fields are in range (R35). -/
def profileOf (p : RawProfile) : Option Profile :=
  match floorModeOf p.floorMode, limitActionOf p.limitAction, fullActionOf p.fullAction, priorityModeOf p.priorityMode,
        minutesModeOf p.minutesMode, sharePolicyOf p.sharePolicy, flagOf p.openMute with
  | some fm, some la, some fa, some pm, some mm, some sp, some om =>
      if openLimitOk p.openLimit && speakLimitOk p.speakLimit && warnLeadOk p.warnLead && duckGainOk p.duckGain &&
         gradeOk p.grade && shareGraceOk p.shareGrace && endLeadOk p.endLead && extStepOk p.extStep then
        some { floorMode := fm, openLimit := p.openLimit, speakLimit := p.speakLimit, warnLead := p.warnLead,
               limitAction := la, fullAction := fa, priorityMode := pm, duckGain := p.duckGain, grade := p.grade,
               minutesMode := mm, sharePolicy := sp, shareGrace := p.shareGrace, openMute := om, endLead := p.endLead,
               extStep := p.extStep }
      else none
  | _, _, _, _, _, _, _ => none

/-- The profile of a BOOK or ALTER all of whose fields are in range, `now` being table time (R35, check 2). -/
def bookingFields (now : Nat) (b : RawBooking) : Option Profile :=
  if b.startAt % 60 = 0 ∧ now < b.startAt ∧ b.endAt % 60 = 0 ∧ b.startAt + 300 ≤ b.endAt ∧
     b.endAt ≤ b.startAt + 43200 ∧ 1 ≤ b.organiser ∧ b.organiser ≤ 65535 ∧ b.plan ≤ 7 then
    profileOf b.profile
  else none

/-- The walk-in profile that LOAD WALK-IN carries (R70). -/
def walkInOf (w : RawWalkIn) : Option WalkIn :=
  match flagOf w.allowed, profileOf w.profile with
  | some a, some p =>
      if w.plan ≤ 7 ∧ 15 ≤ w.length ∧ w.length ≤ 240 ∧ w.gap ≤ 30 then
        some { allowed := a, plan := w.plan, profile := p, length := w.length, gap := w.gap }
      else none
  | _, _ => none

/-- The chair seats that LOAD PLAN carries, 0 standing for none: distinct, seats, and enabled (R65, R200).
Of (0, n) the seat alone is kept (log 45). -/
def chairsOf (enabled : SeatSet) (c1 c2 : Nat) : Option (List Nat) :=
  let l := [c1, c2].filter (· ≠ 0)
  if l.all (fun n => isSeat n && enabled.has n) && l.Nodup then some l else none

/-- The ring plan that LOAD RING PLAN carries (R26). -/
def ringPlanOf (p : RawRingPlan) : Option RingPlan :=
  match flagOf p.idleAllowed, flagOf p.contentFitted, clockSourceOf p.clockSource, flagOf p.keepOpen with
  | some i, some c, some k, some o =>
      if 1 ≤ p.expected ∧ p.expected ≤ 80 ∧ 50 ≤ p.period ∧ p.period ≤ 1000 ∧ 2 ≤ p.limit ∧ p.limit ≤ 7 then
        some { expected := p.expected, period := p.period, limit := p.limit, idleAllowed := i, contentFitted := c,
               clockSource := k, keepOpen := o }
      else none
  | _, _, _, _ => none

/-- A target set in one of its three forms (R161): a list of 1 to 16 seats, ALL, or CHAIRS. ALL and CHAIRS list no seat
(R196; log 29). -/
def targetsOf (t : TargetSet) : Option Targets :=
  if t.form = 0 then
    if 1 ≤ t.seats.length ∧ t.seats.length ≤ 16 ∧ t.seats.all isSeat = true then some (.list t.seats) else none
  else if t.seats ≠ [] then none
  else if t.form = 1 then some .all
  else if t.form = 2 then some .chairs
  else none

/-- The seats a target set names, ascending and each once: PRESENT screen seats alone (R161, R165). -/
def resolveTargets (s : State) (t : Targets) : List Nat :=
  seatNumbers.filter fun n =>
    present s n && screenSeat s n &&
      match t with
      | .list l => l.contains n
      | .all => true
      | .chairs => chairSeat s n

/-- The seats whose record SET CLIP writes (R164): a listed seat and a chair seat PRESENT or not, and every PRESENT
screen seat for ALL. -/
def resolveClip (s : State) (t : Targets) : List Nat :=
  seatNumbers.filter fun n =>
    match t with
    | .list l => l.contains n
    | .all => present s n && screenSeat s n
    | .chairs => chairSeat s n

/-- A clip window or a fill rectangle within the canvas (R149, R163, R164). -/
def windowOk (x0 x1 y0 y1 : Nat) : Bool :=
  decide (x0 ≤ x1) && decide (x1 ≤ 255) && decide (y0 ≤ y1) && decide (y1 ≤ 127)

end Sys2Proof.Machine
end

