-- ==== Sys2Proof/Machine/Flags.lean ====
section
/-! DEFINITION. Machine/Flags.lean: what is computed from the state rather than stored (lamps, counts, the reserve, the
gates, the cadence), and the dirty flags and marks that the owners set (R90, R153, R156). -/

namespace Sys2Proof.Machine

/-! ### Counts over the channel table (R94) -/

/-- The entries of the channel table in channel order. -/
def channels (s : State) : List Channel := s.chan.table.toList.filterMap id

/-- The open count: entries of either category. -/
def openCount (s : State) : Nat := (channels s).length

/-- The open delegate count. -/
def delegateCount (s : State) : Nat := ((channels s).filter fun e => e.category = .delegate).length

/-- The channel that a seat holds. -/
def channelOf (s : State) (seat : Nat) : Option Nat :=
  (List.range 8).find? fun c =>
    match channelAt s c with
    | none => false
    | some e => e.seat == seat

def micOpen (s : State) (seat : Nat) : Bool := (channelOf s seat).isSome

/-- The lowest-numbered free channel (R97). -/
def freeChannel (s : State) : Option Nat := (List.range 8).find? fun c => (channelAt s c).isNone

/-- The occupied delegate channels, oldest open first (R94). -/
def delegateOrder (s : State) : List Nat :=
  s.chan.order.filter fun c =>
    match channelAt s c with
    | none => false
    | some e => e.category = .delegate

/-- Priority is held in the given mode (R112). -/
def priorityHeld (s : State) (m : PriorityMode) : Bool :=
  !s.chan.holders.isEmpty && decide (s.chan.holdMode = some m)

/-- A speak timer runs while its time is above 0 and its entry is not suppressed (R109). -/
def timerRuns (e : Channel) : Bool :=
  match e.timer with
  | none => false
  | some t => decide (0 < t.remaining) && !e.suppressed

/-! ### The reserve (R174, R175) -/

/-- Free entries of the minutes queue. -/
def freeEntries (s : State) : Nat := Config.minutesSize - s.minutes.queue.length

/-- 1 while a seat holds the content lane. -/
def laneHeld (s : State) : Nat := if s.share.holder.isSome then 1 else 0

/-- The reserve R. -/
def reserve (s : State) : Nat := openCount s + laneHeld s + 1

/-- STRICT minutes are in force; with no context LOOSE rules apply (R177). ENDING keeps its mode (R50). -/
def strictMode (s : State) : Bool :=
  match s.ctx with
  | none => false
  | some c => decide (c.mode = .strict)

/-! ### Lamps (R90, R152) -/

/-- The computed lamp of a seat (R90). -/
def computedLamp (s : State) (n : Nat) : Lamp :=
  match (channelOf s n).bind (channelAt s) with
  | some e => if e.suppressed then .suppressed else if e.warned then .warn else .live
  | none => if s.queue.head? = some n then .next else if s.queue.contains n then .waiting else .off

/-- The LAMP content of a seat as it would be built now (R152). -/
def lampNow (s : State) (n : Nat) : LampContent :=
  { lamp := if (panelOf s n).flash then .refused else computedLamp s n, call := (station s n).call,
    chairBus := chairSeat s n }

/-! ### Dirty flags (R153, R154, R156) -/

def markLamp (n : Nat) (s : State) : State := setPanelOf n { panelOf s n with lampDirty := true } s

/-- Mark the lists of every seat that shows one of the pages, PRESENT or not (R156). -/
def markLists (pages : List Page) (s : State) : State :=
  mapPanels (fun r => if r.page ∈ pages then { r with listDirty := true } else r) s

/-- R154: a request for a PRESENT seat starts or renews the REFUSED flash. -/
def flash (n : Nat) (s : State) : State :=
  if present s n then setPanelOf n { panelOf s n with flash := true, lampDirty := true } s else s

def Page.isList : Page → Bool
  | .speakers => true
  | .queue => true
  | .agenda => false
  | .message => false
  | .share => true
  | .blank => false

/-- R150: page dirty at every change of page, list dirty when the new page is a list page. -/
def PanelRecord.withPage (p : Page) (r : PanelRecord) : PanelRecord :=
  { r with page := p, pageDirty := true, listDirty := r.listDirty || p.isList }

/-! ### Cadence (R206) -/

/-- The cadence that the conditions of R206 give. -/
def cadenceFor (s : State) : Cadence :=
  if s.ctx.isSome || s.sup.timer || !s.stn.plan.idleAllowed then .full else .idle

/-- Test the conditions again. -/
def retestCadence (s : State) : State := s.setSup { s.sup with cadence := cadenceFor s }

/-- R207: a start, or a start again, of the cadence request timer. -/
def startCadenceTimer (s : State) : State := retestCadence (s.setSup { s.sup with timer := true })

/-! ### The list refresh timer (R157) -/

/-- It runs while a session is LIVE and a speak timer runs or the session is WARNED. -/
def refreshWanted (s : State) : Bool :=
  match liveCtx s with
  | none => false
  | some c => (channels s).any timerRuns || decide (c.phase = .warned)

/-- The list refresh timer as R157 has it. -/
def setRefreshTimer (s : State) : State := s.setPanel { s.panel with refresh := refreshWanted s }

/-! ### Gates of the buses (R127), buses numbered as in R123 -/

/-- Whether a bus's gate is open. -/
def gateOpen (s : State) (bus : Nat) : Bool :=
  match liveCtx s with
  | none => bus != 2
  | some c => if bus = 2 then decide (c.grade < 2) else if bus = 3 then decide (c.grade < 3) else true

end Sys2Proof.Machine
end

