-- ==== Sys2Proof/Machine/Minutes.lean ====
section
/-! DEFINITION. Machine/Minutes.lean: the minutes unit (chapter 9): filters, the reserve's tests, admission, drops, the
GAP, and the offer of a MINUTE. -/

namespace Sys2Proof.Machine

/-- The kind code of a record (R202), which LOG notice "dropped" carries too. -/
def RecKind.code : RecKind → Nat
  | .start => 1
  | .endd => 2
  | .extended => 3
  | .grade => 4
  | .plan => 5
  | .gap => 6
  | .micOpen => 7
  | .micClose => 8
  | .request => 9
  | .withdraw => 10
  | .shareStart => 11
  | .shareEnd => 12

/-- The groups of R171 by their part in the reserve. -/
inductive Group where
  | opening
  | closing
  | action
  | other
  deriving DecidableEq, Repr

def RecKind.group : RecKind → Group
  | .start => .other
  | .endd => .closing
  | .extended => .action
  | .grade => .action
  | .plan => .action
  | .gap => .other
  | .micOpen => .opening
  | .micClose => .closing
  | .request => .other
  | .withdraw => .other
  | .shareStart => .opening
  | .shareEnd => .closing

/-- The bit of the class mask (R196) for a class whose records carry a seat; none for SESSION. -/
def RecKind.classBit : RecKind → Option Nat
  | .start => none
  | .endd => none
  | .extended => none
  | .grade => none
  | .plan => none
  | .gap => none
  | .micOpen => some 0
  | .micClose => some 0
  | .request => some 1
  | .withdraw => some 1
  | .shareStart => some 2
  | .shareEnd => some 2

/-- What a producer puts to the minutes unit. -/
structure RecRequest where
  kind     : RecKind
  seat     : Option Nat := none
  channel  : Option Nat := none
  reason   : Reason
  duration : Option Nat := none
  detail   : Option Detail := none
  deriving DecidableEq, Repr

/-- Whether a range admits a record of a class for a seat (R172). -/
def LogRange.admits (r : LogRange) (bit seat : Nat) : Bool :=
  r.enabled && decide (r.first ≤ seat) && decide (seat ≤ r.last) && r.mask.getLsbD bit

/-- The session context's grade, 0 with no context (R172, R177). -/
def gradeNow (s : State) : Nat :=
  match s.ctx with
  | none => 0
  | some c => c.grade

/-- R172: FLOOR records at grade 2 or more, and seat-bearing records that no enabled range admits. -/
def filtered (s : State) (r : RecRequest) : Bool :=
  match r.kind.classBit, r.seat with
  | some bit, some seat =>
      (decide (bit = 1) && decide (2 ≤ gradeNow s)) ||
      ((s.minutes.rangeA.enabled || s.minutes.rangeB.enabled) &&
        !(s.minutes.rangeA.admits bit seat || s.minutes.rangeB.admits bit seat))
  | _, _ => false

/-- The room test of a record with `less` free entries taken away and R as it stands (R176, R177). Every test needs a
free entry (R174), a closing record's too: under the law of R175 that always holds (log 27). -/
def roomFor (s : State) (k : RecKind) (less : Nat) : Bool :=
  if strictMode s then
    match k.group with
    | .opening => decide (reserve s + 2 + less ≤ freeEntries s)
    | .closing => decide (1 + less ≤ freeEntries s)
    | .action => decide (reserve s + 1 + less ≤ freeEntries s)
    | .other => decide (reserve s + 1 + less ≤ freeEntries s)
  else decide (1 + less ≤ freeEntries s)

/-- Whether the STRICT reserve lets a MIC OPEN in (R176): R counts the new microphone. For a replacement one microphone fewer
is open and one entry fewer free (R98). -/
def micRoom (s : State) (closing : Bool) : Bool :=
  let gone := if closing then 1 else 0
  !strictMode s || decide ((openCount s - gone + 1) + laneHeld s + 1 + 2 + gone ≤ freeEntries s)

/-- Whether the STRICT reserve lets a SHARE START in (R139): R counts the lane as held. With a holder whose share ends first
one entry fewer is free (R145). -/
def shareRoom (s : State) (closing : Bool) : Bool :=
  let gone := if closing then 1 else 0
  !strictMode s || decide (openCount s + 1 + 1 + 2 + gone ≤ freeEntries s)

/-- Whether the STRICT reserve lets a session-action record in (R176). -/
def actionRoom (s : State) : Bool := !strictMode s || decide (reserve s + 1 ≤ freeEntries s)

/-- R182: a MINUTE of the head record is offered when there is credit, a record, a PRESENT recording station and no
MINUTE in flight. -/
def offerMinute (s : State) : State :=
  match s.minutes.queue with
  | [] => s
  | r :: _ =>
      if 0 < s.minutes.credits ∧ present s 82 = true ∧ s.minutes.flight = none then
        (s.setMinutes { s.minutes with credits := s.minutes.credits - 1, flight := some false }).setSched
          { s.sched with minute := some r }
      else s

/-- Append a record at the tail with the next sequence (R174); an admission is an event of R182. -/
def appendRecord (r : RecRequest) (s : State) : State :=
  let withheld := decide (3 ≤ gradeNow s) && (decide (r.kind.classBit = some 0) || decide (r.kind.classBit = some 2))
  let rec' : MinuteRecord :=
    { seq := s.minutes.nextSeq, time := s.hold.tableTime, kind := r.kind, seat := if withheld then none else r.seat,
      channel := r.channel, reason := r.reason, duration := r.duration, detail := r.detail }
  offerMinute (s.setMinutes { s.minutes with queue := s.minutes.queue ++ [rec'],
                                             nextSeq := (s.minutes.nextSeq + 1) % 65536 })

/-- R178: a drop counts, and the first raises LOG notice "dropped". -/
def dropRecord (k : RecKind) (s : State) : State :=
  let t := s.setMinutes { s.minutes with drop := bump 65535 s.minutes.drop }
  if s.minutes.drop = 0 then raise .log 1 k.code t else t

/-- R179: with drops counted, a GAP is admitted ahead of a record of kind `k` where that leaves its outcome as it is.
Ahead of the closing record of a replacement it falls between the owner's test and the opening record (log 28). -/
def fitGap (k : RecKind) (s : State) : State :=
  if s.minutes.drop ≠ 0 ∧ roomFor s .gap 0 = true ∧ roomFor s k 1 = true then
    let t := appendRecord { kind := .gap, reason := .dropped, detail := some (.gap s.minutes.drop) } s
    t.setMinutes { t.minutes with drop := 0 }
  else s

/-- Whether a requested record is admitted. The owner of an opening or a session action has asked for the test of R176
first (R176, last paragraph), so only a free entry is asked for here (log 28). -/
def admitted (s : State) (k : RecKind) : Bool :=
  match k.group with
  | .opening => decide (1 ≤ freeEntries s)
  | .action => decide (1 ≤ freeEntries s)
  | .closing => roomFor s k 0
  | .other => roomFor s k 0

/-- A record is put to the minutes unit: filtered (R172), admitted with a GAP ahead of it where one fits (R179), or
dropped and counted (R178). -/
def admitRecord (r : RecRequest) (s : State) : State :=
  if filtered s r then s
  else if admitted s r.kind then appendRecord r (fitGap r.kind s)
  else dropRecord r.kind s

end Sys2Proof.Machine
end

