-- ==== Sys2Proof/Machine/Panel.lean ====
section
/-! DEFINITION. Machine/Panel.lean: the panel engine (chapter 8): pages at session and presence events, lists, the pieces
of a job with their clipping, the executor, and the presentation arbiter. -/

namespace Sys2Proof.Machine

/-- The order code of a panel order (R161). -/
def PanelOp.code : PanelOp → Nat
  | .page _ => 0x70
  | .text _ _ _ => 0x71
  | .tile _ _ _ _ => 0x72
  | .fill _ _ _ _ _ _ => 0x73

/-- Whether a panel order draws the tile (R160, check 3). -/
def PanelOp.namesTile (t : Nat) : PanelOp → Bool
  | .page _ => false
  | .text _ _ _ => false
  | .tile k _ _ _ => k == t
  | .fill _ _ _ _ _ _ => false

/-! ### Pages (R150, R151, R169) -/

/-- R151: a seat becomes PRESENT. -/
def panelPresent (n : Nat) (s : State) : State :=
  if isSeat n then
    let r := { panelOf s n with lampSent := none, lampDirty := true }
    let r := if screenSeat s n then { r with pageDirty := true, listDirty := true } else r
    let r := if sessionLive s && decide (r.page = .blank) then r.withPage .speakers else r
    setPanelOf n r s
  else s

/-- R52, step 4: every PRESENT seat shows SPEAKERS and its lamp is to be sent. -/
def panelSessionStart (s : State) : State :=
  seatNumbers.foldl (fun t n =>
    if present t n then setPanelOf n ({ panelOf t n with lampDirty := true }.withPage .speakers) t else t) s

/-- R58, step 6, and R169: every record BLANK with its page and lamp to be sent, no list, no flash. -/
def panelSessionEnd (s : State) : State :=
  mapPanels (fun r => { r with page := .blank, pageDirty := true, listDirty := false, lampDirty := true, flash := false }) s

/-! ### Lists (R155, R203) -/

/-- The entries of a seat's list, 0 to 8 (R155). The states are coded as in R203. -/
def listEntries (s : State) (p : Page) : List ListEntry :=
  match liveCtx s with
  | none => []
  | some c =>
      let hide (n : Nat) : Nat := if c.grade = 3 then 0 else n
      match p with
      | .speakers =>
          let head : List ListEntry :=
            if c.phase = .warned then [{ seat := 0, state := 4, value := c.endAt - s.hold.tableTime }] else []
          let rows := (s.chan.order.filterMap (channelAt s)).map fun e =>
            { seat := hide e.seat, state := if e.suppressed then 3 else if e.warned then 2 else 1,
              value := match e.timer with
                       | none => 65535
                       | some t => t.remaining : ListEntry }
          (head ++ rows).take 8
      | .queue =>
          ((s.queue.take 8).zipIdx 1).map fun (n, i) =>
            { seat := hide n, state := if i = 1 then 5 else 6, value := i : ListEntry }
      | .share =>
          match s.share.holder with
          | none => []
          | some h => [{ seat := hide h.seat, state := 7, value := 0 }]
      | .agenda => []
      | .message => []
      | .blank => []

/-! ### Pieces (R162, R163) -/

/-- How many pieces a job has for each target. -/
def PanelOp.pieces : PanelOp → Nat
  | .page _ => 1
  | .text _ _ _ => 1
  | .tile _ _ _ _ => 16
  | .fill _ _ _ _ _ _ => 1

/-- Piece `k` of an order for a seat whose window is `w`, and whether it is clipped; none where the clip rules do not
send it (R163). The page of a PAGE piece is the order's (R162). -/
def buildPiece (s : State) (op : PanelOp) (w : Window) (k : Nat) : Option (PieceBody × Bool) :=
  match op with
  | .page p => some (.page p, false)
  | .text c l t => some (.text c l t, false)
  | .tile t c x y =>
      let row0 := decide (w.y0 ≤ y + 2 * k) && decide (y + 2 * k ≤ w.y1)
      let row1 := decide (w.y0 ≤ y + 2 * k + 1) && decide (y + 2 * k + 1 ≤ w.y1)
      let first := w.x0 - x
      let last := min 63 (w.x1 - x)
      if (row0 || row1) && decide (x ≤ w.x1) && decide (first ≤ last) then
        let mask := (if row0 then 1 else 0) + (if row1 then 2 else 0)
        some (.tile c x y k mask first last ((((tileAt s t).front[k]?).getD none).getD []),
              !(row0 && row1) || decide (0 < first) || decide (last < 63))
      else none
  | .fill c x0 x1 y0 y1 set =>
      let a0 := max x0 w.x0
      let a1 := min x1 w.x1
      let b0 := max y0 w.y0
      let b1 := min y1 w.y1
      if a0 ≤ a1 ∧ b0 ≤ b1 then
        some (.fill c a0 a1 b0 b1 set,
              !(decide (a0 = x0) && decide (a1 = x1) && decide (b0 = y0) && decide (b1 = y1)))
      else none

/-- The first of the targets and pieces, from piece `k` of the first target on, that the clip rules send, and the clipped
flag: a piece passed over sets it (R165). -/
def passOver (s : State) (op : PanelOp) : List Nat → Nat → Bool → List Nat × Nat × Bool
  | [], _, clipped => ([], 0, clipped)
  | n :: rest, k, clipped =>
      match (List.range op.pieces).find? fun j =>
          decide (k ≤ j) && (buildPiece s op (panelOf s n).window j).isSome with
      | some j => (n :: rest, j, clipped || decide (k < j))
      | none => passOver s op rest 0 (clipped || decide (k < op.pieces))

/-! ### The executor (R165, R166) -/

/-- R165: an IDLE executor takes the staged order and freezes its target set. -/
def startJob (st : Staged) (s : State) : State :=
  s.setPanel { s.panel with
    staged := none,
    job := some { op := st.op, targets := resolveTargets s st.targets, piece := 0, inFlight := false, misses := 0,
                  clipped := false, built := none } }

/-- Bring the executor to the next piece that is to be sent, passing over the others without a cell (log 9), and
complete the job when no target remains (R166). `fuel`: the jobs that can follow one another, the running one and
the staged one. -/
def settleJob : Nat → State → State
  | 0, s => s
  | fuel + 1, s =>
      match s.panel.job with
      | none => s
      | some j =>
          if j.inFlight || j.built.isSome then s
          else
            let (targets, piece, clipped) := passOver s j.op j.targets j.piece j.clipped
            if targets = [] then
              let t := if clipped then raise .panel 2 j.op.code s else s
              let t := t.setPanel { t.panel with job := none }
              match t.panel.staged with
              | none => raise .panel 1 j.op.code t
              | some st => settleJob fuel (startJob st t)
            else s.setPanel { s.panel with job := some { j with targets := targets, piece := piece, clipped := clipped } }

/-- An IDLE executor takes the order in the staging slot (R161, R165). -/
def takeStaged (s : State) : State :=
  match s.panel.job, s.panel.staged with
  | none, some st => settleJob 3 (startJob st s)
  | _, _ => s

/-- R166: a piece that waits in the scheduler stays there until it is placed (R4), but its outcome is no longer the
job's. -/
def disownPiece (s : State) : State :=
  match s.sched.presentation with
  | some (.piece n _ b) => s.setSched { s.sched with presentation := some (.piece n false b) }
  | _ => s

/-- The job with its remaining targets changed by a drop; it is complete when none remains (R166). -/
def dropTo (j : Job) (s : State) : State :=
  let t := s.setPanel { s.panel with job := some j }
  if j.targets = [] then settleJob 3 t else t

/-- R166: drop a seat from the running job's remaining targets; a piece offered to it no longer counts. The executor goes on
to the next seat, and looks at its pieces, when the arbiter next gives it the turn. -/
def dropTarget (n : Nat) (s : State) : State :=
  match s.panel.job with
  | none => s
  | some j =>
      if j.targets.contains n then
        if j.targets.head? = some n then
          dropTo { j with targets := j.targets.tail, piece := 0, inFlight := false, misses := 0, built := none }
            (disownPiece s)
        else dropTo { j with targets := j.targets.erase n } s
      else s

/-- R165: the outcome of the piece in flight to seat `n`. A miss offers the same piece again, and at the missed limit drops
the current seat. The outcome of a piece whose seat has been dropped since it was placed is disregarded (R166). -/
def pieceOutcome (n : Nat) (consumed : Bool) (s : State) : State :=
  match s.panel.job with
  | none => s
  | some j =>
      if j.inFlight && decide (j.targets.head? = some n) then
        if consumed then
          settleJob 3 (s.setPanel { s.panel with
            job := some { j with piece := j.piece + 1, inFlight := false, misses := 0, built := none } })
        else if s.stn.plan.limit ≤ j.misses + 1 then
          dropTarget n s
        else s.setPanel { s.panel with job := some { j with inFlight := false, misses := j.misses + 1 } }
      else s

/-- The cell of the current piece, offered. A PAGE piece sets the record's page at its first build and carries the
record's page at every build (R162); any other piece that has missed goes out as it was built (R164, R165; log 26). -/
def offerPiece (s : State) : Option OutCell × State :=
  match s.panel.job with
  | none => (none, s)
  | some j =>
      let n := j.targets.headD 0
      let r := panelOf s n
      let send (body : PieceBody) (clipped : Bool) (t : State) : Option OutCell × State :=
        (some (.piece n true body), t.setPanel { t.panel with
          job := some { j with inFlight := true, clipped := j.clipped || clipped, built := some body } })
      match j.op, j.built with
      | .page p, none => send (.page p) false (setPanelOf n { r.withPage p with pageDirty := false } s)
      | .page _, some _ => send (.page r.page) false (setPanelOf n { r with pageDirty := false } s)
      | _, some body => send body false s
      | op, none =>
          match buildPiece s op r.window j.piece with
          | none => (none, s)
          | some (body, clipped) => send body clipped s

/-! ### The presentation arbiter (R167) -/

/-- Before each choice: flags that no cell can serve are set to no. -/
def arbiterClean (s : State) : State :=
  seatNumbers.foldl (fun t n =>
    let r := panelOf t n
    if present t n then
      if !screenSeat t n then
        if r.pageDirty || r.listDirty then setPanelOf n { r with pageDirty := false, listDirty := false } t else t
      else if r.listDirty && !r.page.isList && !r.pageDirty then setPanelOf n { r with listDirty := false } t
      else t
    else t) s

/-- Whether a LAMP for the seat is in flight; none waits when the arbiter chooses (R152, R167). -/
def lampOut (s : State) (n : Nat) : Bool :=
  match s.ring.flight.bind Flight.cell with
  | some (.lamp m _) => m == n
  | _ => false

/-- Lamps first: the lowest lamp-dirty PRESENT seat that is sent a cell. One with no LAMP out whose content is what it
was last sent gets none (R152). -/
def lampPass : List Nat → State → Option OutCell × State
  | [], s => (none, s)
  | n :: rest, s =>
      if present s n && (panelOf s n).lampDirty then
        let c := lampNow s n
        let t := setPanelOf n { panelOf s n with lampDirty := false } s
        if (panelOf s n).lampSent = some c ∧ lampOut s n = false then lampPass rest t else (some (.lamp n c), t)
      else lampPass rest s

/-- The lowest PRESENT screen seat with page dirty, or with list dirty on a list page. -/
def refreshSeat (s : State) : Option Nat :=
  seatNumbers.find? fun n =>
    let r := panelOf s n
    present s n && screenSeat s n && (r.pageDirty || (r.listDirty && r.page.isList))

/-- A refresh of a seat: its page if that is dirty, and otherwise its list. -/
def offerRefresh (n : Nat) (s : State) : Option OutCell × State :=
  let r := panelOf s n
  if r.pageDirty then (some (.page n r.page), setPanelOf n { r with pageDirty := false } s)
  else (some (.list n (listEntries s r.page)), setPanelOf n { r with listDirty := false } s)

def setTurn (t : Turn) (x : Option OutCell × State) : Option OutCell × State :=
  (x.1, x.2.setPanel { x.2.panel with turn := t })

/-- Pieces wait when the executor is RUNNING with no piece in flight. -/
def piecesWait (s : State) : Bool :=
  match s.panel.job with
  | none => false
  | some j => !j.inFlight

/-- The waiting refresh, if there is one. -/
def refreshTurn (s : State) : Option OutCell × State :=
  match refreshSeat s with
  | none => (none, s)
  | some n => setTurn .pieces (offerRefresh n s)

/-- The executor has the turn: it goes on to the next piece that the clip rules send (log 9) and offers it. Where that
completes the job and none follows, the turn is the refresh's after all. -/
def pieceTurn (s : State) : Option OutCell × State :=
  let t := settleJob 3 s
  if piecesWait t then setTurn .refresh (offerPiece t) else refreshTurn t

/-- The arbiter's choice, built: lamps, then refresh and pieces by turns (R167). The flags that no cell can serve are set to
no also where there turns out to be nothing to choose (log 50). -/
def presentationChoice (s : State) : Option OutCell × State :=
  match lampPass seatNumbers (arbiterClean s) with
  | (some c, t) => (some c, t)
  | (none, t) =>
      if piecesWait t && (decide (t.panel.turn = .pieces) || (refreshSeat t).isNone) then pieceTurn t
      else refreshTurn t

/-- The arbiter hands the scheduler its choice, unless a presentation cell waits there already (R4, R167). -/
def offerPresentation (s : State) : State :=
  match s.sched.presentation with
  | some _ => s
  | none =>
      let (c, t) := presentationChoice s
      t.setSched { t.sched with presentation := c }

/-- What every command of the running main domain leaves behind it: the list refresh timer as R157 has it, and the
arbiter's choice in the scheduler where a cell has been placed or something has got ready while none waited (R167, log
8). -/
def settle (s : State) : State := offerPresentation (setRefreshTimer s)

/-! ### Outcomes outside a job (R158) -/

def lampConsumed (n : Nat) (c : LampContent) (s : State) : State :=
  setPanelOf n { panelOf s n with lampSent := some c } s

def lampMissed (n : Nat) (s : State) : State := if present s n then markLamp n s else s

def pageMissed (n : Nat) (s : State) : State :=
  if present s n then setPanelOf n { panelOf s n with pageDirty := true } s else s

def listMissed (n : Nat) (s : State) : State :=
  if present s n then setPanelOf n { panelOf s n with listDirty := true } s else s

/-- R151: a departing seat loses its flash without its lamp being marked, and its place in the running job. -/
def panelDepart (n : Nat) (s : State) : State :=
  dropTarget n (setPanelOf n { panelOf s n with flash := false } s)

end Sys2Proof.Machine
end

