-- ==== Sys2Proof/Machine/Share.lean ====
section
/-! DEFINITION. Machine/Share.lean: the share controller (chapter 7): eligibility, grant, end, handover, grace. -/

namespace Sys2Proof.Machine

/-- Conditions 1 to 6 of R137, which SHARE GRANT tests too. -/
def eligibleSix (s : State) (n : Nat) : Bool :=
  sessionLive s && s.stn.plan.contentFitted && present s n && enabledSeat s n && hasShareRight s n &&
  match (station s n).caps with
  | none => false
  | some c => isSeat n && c.content

/-- R137, all seven conditions. -/
def eligible (s : State) (n : Nat) : Bool :=
  eligibleSix s n &&
  match liveCtx s with
  | none => false
  | some c => decide (c.profile.sharePolicy = .right) || micOpen s n || chairSeat s n

def isHolder (s : State) (n : Nat) : Bool :=
  match s.share.holder with
  | none => false
  | some h => h.seat == n

/-- A deferred share seat equal to a seat that leaves the list becomes absent (R141). -/
def leaveWaiting (n : Nat) (s : State) : State :=
  s.setShare { s.share with waiting := s.share.waiting.erase n,
                            deferred := if s.share.deferred = some n then none else s.share.deferred }

/-- R139: the act of a grant whose test has passed, with the lane free. -/
def grantLane (n : Nat) (cause : Reason) (s : State) : State :=
  let basis : Basis := match cause, liveCtx s with
    | .order, _ => .unbound
    | _, some c => if c.profile.sharePolicy = .right then .unbound else .speaker
    | _, none => .speaker
  let t := s.setShare { s.share with holder := some { seat := n, basis := basis, far := decide (gradeNow s = 0) } }
  let t := leaveWaiting n t
  let t := admitRecord { kind := .shareStart, seat := some n, reason := cause } t
  let t := offerMark .laneBridge (offerMark (.laneSeat n) t)
  markLists [.share] t

/-- R141: the pass over the waiting list. -/
def handoverGo : List Nat → State → State
  | [], s => s
  | n :: rest, s =>
      if !eligible s n then handoverGo rest (leaveWaiting n s)
      else if shareRoom s false then grantLane n .queue s
      else if s.share.deferred = some n then s
      else raise .log 2 n (s.setShare { s.share with deferred := some n })

/-- A handover pass, when the lane is free (R141). -/
def handover (s : State) : State := if s.share.holder.isNone then handoverGo s.share.waiting s else s

/-- R140 without its handover: SESSION, and SHARE GRANT over a holder (R145). -/
def endShareOnly (reason : Reason) (s : State) : State :=
  match s.share.holder with
  | none => s
  | some h =>
      let t := admitRecord { kind := .shareEnd, seat := some h.seat, reason := reason } s
      let t := t.setShare { t.share with holder := none, grace := none }
      let t := offerMark .laneBridge (offerMark (.laneSeat h.seat) t)
      markLists [.share] t

/-- R140: the end of a share, with handover. -/
def endShare (reason : Reason) (s : State) : State :=
  match s.share.holder with
  | none => s
  | some _ => handover (endShareOnly reason s)

/-- R143: the start of the grace timer with the share grace of the profile copy; a grace of 0 ends the share at once,
and a running timer is not restarted. It asks nothing of the holder, as R147 has it beside R68 (log 48). -/
def startGrace (s : State) : State :=
  match s.share.grace, liveCtx s with
  | none, some c =>
      if c.profile.shareGrace = 0 then endShare .grace s
      else s.setShare { s.share with grace := some c.profile.shareGrace }
  | _, _ => s

/-- R99, step 4: the allocator reports the close of a microphone. Every non-chair holder starts grace, eligible or not
(R147 beside R68, log 48). -/
def shareMicClosed (n : Nat) (s : State) : State :=
  if isHolder s n && !chairSeat s n then startGrace s else s

/-- R97, step 6: the allocator reports an open, which stops the grace timer of that seat (R143). -/
def shareMicOpened (n : Nat) (s : State) : State :=
  if isHolder s n then s.setShare { s.share with grace := none } else s

/-- R142: KEY SHARE from a PRESENT seat. The first case that holds decides. -/
def keyShare (n : Nat) (s : State) : State :=
  if isHolder s n then endShare .self s
  else if s.share.waiting.contains n then leaveWaiting n s
  else if !eligible s n then flash n s
  else if s.share.holder.isNone && s.share.waiting.isEmpty then
    if shareRoom s false then grantLane n .self s else raise .log 2 n (flash n s)
  else if Config.maxWaiting ≤ s.share.waiting.length then flash n s
  else s.setShare { s.share with waiting := s.share.waiting ++ [n] }

/-- R144: at a grade of 1 or more the far flag goes off and the bridge is told. -/
def gradeFarFlag (grade : Nat) (s : State) : State :=
  match s.share.holder with
  | none => s
  | some h =>
      if h.far && decide (1 ≤ grade) then
        offerMark .laneBridge (s.setShare { s.share with holder := some { h with far := false } })
      else s

/-- R147: steps 1 and 2 of a departure, and steps 1a and 1b of a plan switch, each with its reason. -/
def shareLeave (n : Nat) (reason : Reason) (s : State) : State :=
  leaveWaiting n (if isHolder s n then endShare reason s else s)

/-- R147, step 5 of a plan switch: the holder's right, and otherwise its standing, under the new plan. -/
def sharePlanCheck (s : State) : State :=
  match s.share.holder with
  | none => s
  | some h =>
      if !hasShareRight s h.seat then endShare .plan s
      else if chairSeat s h.seat then s.setShare { s.share with grace := none }
      else if decide (h.basis = .speaker) && !micOpen s h.seat && s.share.grace.isNone then startGrace s
      else s

/-- R148: step 1 of the end of a session. -/
def shareSessionEnd (s : State) : State :=
  let t := endShareOnly .session s
  t.setShare { t.share with waiting := [], deferred := none, grace := none }

end Sys2Proof.Machine
end

