-- ==== Sys2Proof/Machine/Channels.lean ====
section
/-! DEFINITION. Machine/Channels.lean: the channel allocator (chapter 5): opens, closes, auto-open, replacement, priority;
and the part of the request queue that an open touches (R86). -/

namespace Sys2Proof.Machine

/-! ### A seat leaves the request queue (R86, R90, R103) -/

/-- The seat leaves the queue, and those behind it move up. The new head's lamp is marked if the head changed, the
QUEUE lists are marked, and a deferred seat equal to it becomes absent. -/
def queueLeave (n : Nat) (s : State) : State :=
  let wasHead := decide (s.queue.head? = some n)
  let t := (s.setQueue (s.queue.erase n)).setChan
    { s.chan with deferred := if s.chan.deferred = some n then none else s.chan.deferred }
  let t := match wasHead, t.queue.head? with
    | true, some m => markLamp m t
    | _, _ => t
  markLists [.queue] t

/-! ### Opening (R96, R97, R108) -/

/-- The speak timer of a delegate opened under a profile (R108). -/
def newTimer (p : Profile) : Option SpeakTimer :=
  if p.speakLimit = 0 then none
  else some { remaining := p.speakLimit, lead := p.warnLead, action := p.limitAction, due := false }

/-- The entry of an open (R94, R97, step 1). -/
def newChannel (s : State) (p : Profile) (n : Nat) (cat : Category) (cause : Reason) : Channel :=
  let timer := if cat = .delegate then newTimer p else none
  { seat := n, category := cat, cause := cause, openedAt := s.hold.tableTime, mute := p.openMute, timer := timer,
    warned := match timer with
              | none => false
              | some t => decide (t.remaining ≤ t.lead),
    suppressed := decide (cat = .delegate) && priorityHeld s .duck }

/-- R97: the act of an open that has been taken. -/
def openMic (n : Nat) (cat : Category) (cause : Reason) (s : State) : State :=
  match liveCtx s, freeChannel s with
  | some c, some k =>
      let t := setChannel k (some (newChannel s c.profile n cat cause)) s
      let t := t.setChan { t.chan with order := t.chan.order ++ [k],
                                       deferred := if t.chan.deferred = some n then none else t.chan.deferred }
      let t := if t.queue.contains n then queueLeave n t else t
      let t := admitRecord { kind := .micOpen, seat := some n, channel := some k, reason := cause } t
      let t := markLists [.speakers] (markLamp n (offerMark (.mic n) t))
      shareMicOpened n t
  | _, _ => s

/-- Conditions 1 to 5 of R96, with the open delegate count taken less `gone` (R98). -/
def openAllowed (s : State) (n : Nat) (cat : Category) (gone : Nat) : Bool :=
  match liveCtx s with
  | none => false
  | some c =>
      present s n && enabledSeat s n && !micOpen s n &&
      (decide (cat = .chair) ||
        (decide (delegateCount s - gone < c.profile.openLimit) && !priorityHeld s .close))

/-- R96: an open requested, taken or refused. -/
def tryOpen (n : Nat) (cat : Category) (cause : Reason) (s : State) : Bool × State :=
  if openAllowed s n cat 0 && micRoom s false then (true, openMic n cat cause s) else (false, s)

/-! ### Closing (R99) -/

/-- Steps 1 to 3 of R99. -/
def closeEntry (n : Nat) (reason : Reason) (s : State) : State :=
  match channelOf s n with
  | none => s
  | some k =>
      match channelAt s k with
      | none => s
      | some e =>
          let t := admitRecord { kind := .micClose, seat := some n, channel := some k, reason := reason,
                                 duration := some (s.hold.tableTime - e.openedAt) } s
          let t := setChannel k none t
          let t := t.setChan { t.chan with order := t.chan.order.erase k }
          markLists [.speakers] (markLamp n (offerMark (.mic n) t))

/-- R99 without its auto-open occasion: steps 1 to 4. A seat that holds no channel is left alone. -/
def closeMicOnly (n : Nat) (reason : Reason) (s : State) : State :=
  match channelOf s n with
  | none => s
  | some _ => shareMicClosed n (closeEntry n reason s)

/-! ### Auto-open (R101 to R103) -/

/-- Auto-open acts in floor mode QUEUE, and in FREE with full action WAIT (R101). -/
def autoMode (s : State) : Bool :=
  match liveCtx s with
  | none => false
  | some c =>
      decide (c.profile.floorMode = .queue) ||
      (decide (c.profile.floorMode = .free) && decide (c.profile.fullAction = .wait))

/-- The tests of a pass other than the reserve's (R102). -/
def headAllowed (s : State) (n : Nat) : Bool := openAllowed s n .delegate 0 && !chairSeat s n

/-- R102 and R103: passes on successive heads until a test fails; every pass that opens takes the head from the
queue. -/
def autoOpenGo : Nat → State → State
  | 0, s => s
  | fuel + 1, s =>
      match s.queue with
      | [] => s
      | n :: _ =>
          if !headAllowed s n then s
          else if micRoom s false then autoOpenGo fuel (openMic n .delegate .queue s)
          else if s.chan.deferred = some n then s
          else raise .log 2 n (s.setChan { s.chan with deferred := some n })

/-- An occasion for auto-open (R101). -/
def autoOpen (s : State) : State := if autoMode s then autoOpenGo s.queue.length s else s

/-- R99: a close, with its occasion for auto-open. -/
def closeMic (n : Nat) (reason : Reason) (s : State) : State :=
  match channelOf s n with
  | none => s
  | some _ => autoOpen (closeMicOnly n reason s)

/-- The seat of the delegate microphone opened earliest (R94). -/
def earliestDelegate (s : State) : Option Nat :=
  ((delegateOrder s).head?.bind (channelAt s)).map Channel.seat

/-- The seat of the most recently opened delegate microphone (R94). -/
def latestDelegate (s : State) : Option Nat :=
  ((delegateOrder s).getLast?.bind (channelAt s)).map Channel.seat

/-- Whether a replacement by the seat would be taken (R98): the test of R96 as if the close had been made. -/
def replaceAllowed (s : State) (n : Nat) : Bool :=
  (earliestDelegate s).isSome && openAllowed s n .delegate 1 && micRoom s true

/-- R98: the earliest delegate closes by R99, with no auto-open occasion, and then the seat opens, both or neither. Under
STRICT the share controller hears of the close (R99, step 4) when both records are in the queue, so that none of its records
falls between the test and the MIC OPEN (R176, log 44). A GAP that is due is fitted ahead of the MIC CLOSE (R179, log 28). -/
def replaceMic (n : Nat) (closing opening : Reason) (s : State) : Bool × State :=
  match earliestDelegate s with
  | some m =>
      if replaceAllowed s n then
        (true, if strictMode s then shareMicClosed m (openMic n .delegate opening (closeEntry m closing s))
               else openMic n .delegate opening (closeMicOnly m closing s))
      else (false, s)
  | none => (false, s)

/-! ### Priority (R112 to R116) -/

/-- Set or clear the suppressed flag of every delegate entry, marking the seats whose flag changes and the SPEAKERS
lists (R114, R116). -/
def suppressAll (on : Bool) (s : State) : State :=
  let changed := (channels s).filter fun e => decide (e.category = .delegate) && (e.suppressed != on)
  if changed = [] then s
  else
    let t := s.setChan { s.chan with table := s.chan.table.map fun x =>
      match x with
      | none => none
      | some e => if e.category = .delegate then some { e with suppressed := on } else some e }
    markLists [.speakers] (changed.foldl (fun t e => markLamp e.seat t) t)

/-- R116: the release of a holder, by key, departure or plan switch; one that is no holder releases nothing. -/
def releasePriority (n : Nat) (s : State) : State :=
  if s.chan.holders.contains n then
    let t := s.setChan { s.chan with holders := s.chan.holders.erase n }
    if t.chan.holders = [] then autoOpen (suppressAll false (t.setChan { t.chan with holdMode := none })) else t
  else s

/-- R115: a hold that begins in CLOSE mode closes every delegate, oldest first. -/
def closeForPriority (s : State) : State :=
  ((delegateOrder s).filterMap (channelAt s)).foldl (fun t e => closeMic e.seat .priority t) s

/-- R113: KEY PRIORITY DOWN from a chair seat of the active plan. The holding set is kept in the order its seats joined
(log 46). -/
def keyPriorityDown (n : Nat) (s : State) : State :=
  match liveCtx s with
  | none => s
  | some c =>
      if s.chan.holders.contains n then s
      else
        let first := s.chan.holders.isEmpty
        let t := s.setChan { s.chan with holders := s.chan.holders ++ [n],
                                         holdMode := if first then some c.profile.priorityMode else s.chan.holdMode }
        let t := if first then
            match c.profile.priorityMode with
            | .duck => suppressAll true t
            | .close => closeForPriority t
          else t
        if micOpen t n then t
        else
          match tryOpen n .chair .priority t with
          | (true, u) => u
          | (false, u) => flash n u

/-- R116: KEY PRIORITY UP from a chair seat of the active plan. -/
def keyPriorityUp (n : Nat) (s : State) : State := releasePriority n s

/-! ### The end of a session and speak timers (R120, R109 to R111) -/

/-- R120: priority is released without auto-open, and every channel closes in the opening order. -/
def channelsSessionEnd (s : State) : State :=
  let t := suppressAll false (s.setChan { s.chan with holders := [], holdMode := none })
  let t := (t.chan.order.filterMap (channelAt t)).foldl (fun u e => closeMicOnly e.seat .session u) t
  t.setChan { t.chan with deferred := none }

/-- R109 and R110: one second of the timer of a channel. -/
def tickChannel (e : Channel) : Channel :=
  match e.timer with
  | none => e
  | some t =>
      if timerRuns e then
        let left := t.remaining - 1
        { e with timer := some { t with remaining := left, due := t.due || decide (left = 0) },
                 warned := e.warned || decide (left ≤ t.lead) }
      else e

/-- R109 and R110 for every channel; a seat that becomes warned is marked. -/
def tickTimers (s : State) : State :=
  let newly := (channels s).filter fun e => !e.warned && (tickChannel e).warned
  let t := s.setChan { s.chan with table := s.chan.table.map fun x => x.map tickChannel }
  newly.foldl (fun u e => markLamp e.seat u) t

/-- R111: the limit action of a timer that has come to 0. -/
def speakLimitReached (n : Nat) (s : State) : State :=
  match channelOf s n with
  | none => s
  | some k =>
      match channelAt s k with
      | none => s
      | some e =>
          match e.timer with
          | none => s
          | some t =>
              if t.due then
                match t.action with
                | .close => closeMic n .limit s
                | .flag => raise .floor 2 n
                    (setChannel k (some { e with timer := some { t with due := false } }) s)
              else s

end Sys2Proof.Machine
end

