-- ==== Sys2Proof/Machine/Floor.lean ====
section
/-! DEFINITION. Machine/Floor.lean: the floor controller's queue (chapter 4): append, withdrawal, insertion, and the
requests of delegate and chair seats. -/

namespace Sys2Proof.Machine

/-- A withdrawal without its auto-open occasion (R72, R88, R90). -/
def withdrawOnly (n : Nat) (reason : Reason) (s : State) : State :=
  markLamp n (admitRecord { kind := .withdraw, seat := some n, reason := reason } (queueLeave n s))

/-- A withdrawal; that of the head is an occasion for auto-open (R78, R88, R91, R92). A seat that is not queued is left
alone. -/
def withdraw (n : Nat) (reason : Reason) (s : State) : State :=
  if s.queue.contains n then
    let wasHead := decide (s.queue.head? = some n)
    let t := withdrawOnly n reason s
    if wasHead then autoOpen t else t
  else s

/-- A seat joins the queue at a position, 1 for the head (R79, R87): the record, the lamps of the seat and of the head
it may have displaced (R90), and the QUEUE lists. -/
def joinQueue (n position : Nat) (cause : Reason) (s : State) : State :=
  let t := s.setQueue (s.queue.insertIdx (position - 1) n)
  let t := admitRecord { kind := .request, seat := some n, reason := cause } t
  let t := markLamp n t
  let t := match decide (position = 1), s.queue.head? with
    | true, some m => markLamp m t
    | _, _ => t
  markLists [.queue] t

/-- R79: an append, with its occasion for auto-open; a full queue shows REFUSED and raises FLOOR notice "queue full". -/
def appendSeat (n : Nat) (s : State) : State :=
  if Config.maxQueue ≤ s.queue.length then raise .floor 1 n (flash n s)
  else autoOpen (joinQueue n (s.queue.length + 1) .self s)

/-- The REFUSED flash on a seat when what it asked for was refused. -/
def orFlash (n : Nat) (r : Bool × State) : State := if r.1 then r.2 else flash n r.2

/-- R81 and R82: a request for the floor in FREE mode. -/
def requestFree (n : Nat) (p : Profile) (s : State) : State :=
  if delegateCount s < p.openLimit then
    if p.fullAction = .wait ∧ s.queue ≠ [] then appendSeat n s
    else orFlash n (tryOpen n .delegate .free s)
  else
    match p.fullAction with
    | .refuse => flash n s
    | .replace => orFlash n (replaceMic n .replaced .free s)
    | .wait => appendSeat n s

/-- R78 and R80: REQUEST from a delegate seat, a session being LIVE. The first case that holds decides. -/
def requestDelegate (n : Nat) (p : Profile) (s : State) : State :=
  if !enabledSeat s n then flash n s
  else if micOpen s n then closeMic n .self s
  else if s.queue.contains n then withdraw n .self s
  else
    match p.floorMode with
    | .queue => appendSeat n s
    | .chair => appendSeat n s
    | .free => requestFree n p s

/-- R83: REQUEST from a chair seat toggles its microphone. -/
def requestChair (n : Nat) (s : State) : State :=
  if micOpen s n then closeMic n .self s else orFlash n (tryOpen n .chair .chair s)

/-- REQUEST while a session is LIVE (R78 to R83). -/
def requestLive (n : Nat) (s : State) : State :=
  match liveCtx s with
  | none => s
  | some c => if chairSeat s n then requestChair n s else requestDelegate n c.profile s

/-- R84 and R85: NEXT from a chair seat. -/
def keyNext (n : Nat) (s : State) : State :=
  match liveCtx s with
  | none => s
  | some c =>
      match c.profile.floorMode with
      | .chair =>
          match s.queue with
          | [] => flash n s
          | m :: _ =>
              if delegateCount s < c.profile.openLimit then orFlash n (tryOpen m .delegate .chair s)
              else orFlash n (replaceMic m .chair .chair s)
      | _ =>
          match earliestDelegate s with
          | none => flash n s
          | some m => closeMic m .chair s

end Sys2Proof.Machine
end

