-- ==== Sys2Proof/Machine/Session.lean ====
section
/-! DEFINITION. Machine/Session.lean: the booking table's acts (chapter 2) and the session controller (chapter 3): start,
warning, extension, end, walk-in, reconciliation, plan switch. -/

namespace Sys2Proof.Machine

/-! ### The booking table (R32 to R34, R47) -/

/-- The turnover gap in force, in seconds (R34, R70). -/
def turnoverGap (s : State) : Nat := s.hold.walkIn.gap * 60

/-- R34: whether a booking from `a` to `b` conflicts with an entry under a gap. -/
def conflicts (gap a b : Nat) (e : Booking) : Bool := decide (a < e.endAt + gap) && decide (e.startAt < b + gap)

/-- The conflicting entry reported: the first in table order, leaving out the entry `except` (R34). -/
def conflictEntry (s : State) (a b : Nat) (except : Option Nat) : Option Booking :=
  s.hold.bookings.find? fun e => conflicts (turnoverGap s) a b e && decide (some e.id ≠ except)

/-- Incrementing an id wraps from 65,535 to 1 (R32). -/
def nextIdAfter (id : Nat) : Nat := if 65535 ≤ id then 1 else id + 1

/-- The first id from `id` on that is not in use; the table holds at most 48 entries (R32). -/
def freshId (used : List Nat) : Nat → Nat → Nat
  | 0, id => id
  | fuel + 1, id => if used.contains id then freshId used fuel (nextIdAfter id) else id

/-- The id a new record takes (R32). -/
def newId (s : State) : Nat := freshId (s.hold.bookings.map Booking.id) (Config.maxBookings + 1) s.hold.nextId

/-- Place an entry by its start (R33, R36). -/
def placeBooking (b : Booking) : List Booking → List Booking
  | [] => [b]
  | e :: rest => if b.startAt < e.startAt then b :: e :: rest else e :: placeBooking b rest

def setBookings (l : List Booking) (s : State) : State := s.setHold { s.hold with bookings := l }

/-- Change the LIVE entry (R47). -/
def updateLive (f : Booking → Booking) (s : State) : State :=
  setBookings (s.hold.bookings.map fun b => if b.live then f b else b) s

/-- R46: the LIVE entry is removed. -/
def removeLive (s : State) : State := setBookings (s.hold.bookings.filter fun b => !b.live) s

/-! ### Warning and start (R52 to R55) -/

/-- R55: the session is WARNED. -/
def warnSession (c : Session) (s : State) : State :=
  markLists [.speakers] (raise .session 2 c.id (s.setCtx (some { c with phase := .warned })))

/-- R55 at an increment, and R52 step 7 at a start: a LIVE context at or past its warning time and before its end. -/
def checkWarning (s : State) : State :=
  match s.ctx with
  | none => s
  | some c =>
      if c.phase = .live ∧ c.warnAt ≤ s.hold.tableTime ∧ s.hold.tableTime < c.endAt then warnSession c s else s

/-- R52: a session start from the LIVE entry. -/
def startSession (cause : Reason) (resumed : Bool) (s : State) : State :=
  match liveEntry s with
  | none => s
  | some b =>
      let (warnAt, s) := drawTime ((b.endAt : Int) - (b.profile.endLead * 60 : Nat)) s
      let down := decide (b.profile.minutesMode = .strict) && decide (freeEntries s < 2)
      let c : Session :=
        { id := b.id, walkIn := b.walkIn, organiser := b.organiser, plan := b.plan, profile := b.profile,
          grade := b.grade, mode := if down then .loose else b.profile.minutesMode, endAt := b.endAt, warnAt := warnAt,
          phase := .live, resumed := resumed }
      let t := s.setCtx (some c)
      let t := t.setStn { t.stn with short := false, rounds := t.stn.rounds.map fun r => { r with live := true } }
      let t := admitRecord { kind := .start, reason := cause,
                             detail := some (.start c.id c.organiser c.plan c.grade resumed) } t
      let t := retestCadence (panelSessionStart t)
      let t := raise .session 1 c.id t
      let t := if down then raise .session 6 c.id t else t
      checkWarning t

/-- R45, start part: a PENDING first entry whose start has been reached becomes LIVE and its session starts. -/
def startDetection (s : State) : State :=
  match s.hold.bookings with
  | [] => s
  | b :: rest =>
      if b.live = false ∧ b.startAt ≤ s.hold.tableTime then
        startSession .time false (setBookings ({ b with live := true } :: rest) s)
      else s

/-! ### End (R58, R46) -/

/-- R58: the end of the session, step by step; then the next entry, if its start has been reached (R46). -/
def endSession (reason : Reason) (s : State) : State :=
  match s.ctx with
  | none => s
  | some c =>
      let t := s.setCtx (some { c with phase := .ending })
      let t := shareSessionEnd t
      let t := channelsSessionEnd t
      let t := markLists [.queue] (t.setQueue [])
      let t := admitRecord { kind := .endd, reason := reason, detail := some (.endd c.id) } t
      let t := removeLive t
      let t := panelSessionEnd t
      let t := startCadenceTimer t
      let t := raise .session 4 c.id t
      let t := retestCadence (t.setCtx none)
      startDetection t

/-- R45, end part: a LIVE first entry whose end has been reached. -/
def endDetection (s : State) : State :=
  match s.hold.bookings with
  | [] => s
  | b :: _ => if b.live = true ∧ b.endAt ≤ s.hold.tableTime then endSession .time s else s

/-! ### Extension (R56, R57) -/

/-- How a request for an extension comes out (R56). -/
inductive ExtendResult where
  | noSession
  | used
  | overlap (id : Nat)
  | logFull
  | taken (newEnd used : Nat)
  deriving DecidableEq, Repr

/-- The entry that follows the LIVE one (R47). -/
def nextEntry (s : State) : Option Booking := (s.hold.bookings.filter fun b => !b.live).head?

/-- R56 and R57: an extension, with cause ORDER for EXTEND and CHAIR for the chair's key. The claim on the end begins
and ends within this act. -/
def requestExtension (cause : Reason) (s : State) : ExtendResult × State :=
  match liveCtx s, liveEntry s with
  | some c, some b =>
      if 3 ≤ b.used then (.used, s)
      else
        let exact := c.endAt + c.profile.extStep * 60
        let blocked := (nextEntry s).filter fun e => decide (e.startAt < exact + turnoverGap s)
        match blocked with
        | some e => (.overlap e.id, s)
        | none =>
            if !actionRoom s then (.logFull, s)
            else
              let (newEnd, t) := drawTime (exact : Int) s
              let t := admitRecord { kind := .extended, reason := cause, detail := some (.extended c.id newEnd) } t
              let t := updateLive (fun e => { e with endAt := newEnd, used := bump 3 e.used }) t
              let (warnAt, t) := drawTime ((newEnd : Int) - (c.profile.endLead * 60 : Nat)) t
              let t := t.setCtx (some { c with endAt := newEnd, warnAt := warnAt, phase := .live })
              let t := if c.phase = .warned then markLists [.speakers] t else t
              (.taken newEnd (b.used + 1), raise .session 3 c.id t)
  | _, _ => (.noSession, s)

/-! ### Walk-in (R61 to R63, R47) -/

/-- Table time rounded up to a whole minute (R61). -/
def roundUp (t : Nat) : Nat := (t + 59) / 60 * 60

/-- Table time rounded down to a whole minute (R62). -/
def roundDown (t : Nat) : Nat := t / 60 * 60

/-- The first PENDING entry, whose start less the gap is the limit of the walk-in window (R61). -/
def firstPending (s : State) : Option Booking := s.hold.bookings.find? fun b => !b.live

/-- The walk-in window is at least 10 minutes (R61). -/
def windowWide (s : State) : Bool :=
  match firstPending s with
  | none => true
  | some b => decide (roundUp s.hold.tableTime + 600 + turnoverGap s ≤ b.startAt)

/-- The end of a walk-in, exactly computed (R62, step 1). -/
def walkInEnd (s : State) : Nat :=
  let byLength := s.hold.tableTime + s.hold.walkIn.length * 60
  match firstPending s with
  | none => roundDown byLength
  | some b => roundDown (min byLength (b.startAt - turnoverGap s))

/-- How the creation of a walk-in entry comes out (R47). -/
inductive Created where
  | refused (status : Status) (id : Nat)
  | done (id : Nat)
  deriving DecidableEq, Repr

/-- R62: compute the entry, have it created (R47), and start its session. -/
def startWalkIn (cause : Reason) (s : State) : Created × State :=
  let a := roundDown s.hold.tableTime
  if s.hold.clockValid = false then (.refused .state 0, s)
  else if Config.maxBookings ≤ s.hold.bookings.length then (.refused .full 0, s)
  else
    match conflictEntry s a (walkInEnd s) none with
    | some e => (.refused .overlap e.id, s)
    | none =>
        let (b, t) := drawTime (walkInEnd s : Int) s
        let w := t.hold.walkIn
        let id := newId t
        let e : Booking :=
          { id := id, startAt := a, endAt := b, organiser := 0, walkIn := true, plan := w.plan, profile := w.profile,
            live := true, grade := w.profile.grade, used := 0 }
        let t := t.setHold { t.hold with bookings := e :: t.hold.bookings, nextId := nextIdAfter id }
        (.done id, startSession cause false t)

/-- R61: the conditions of a walk-in key. -/
def walkInKeyAllowed (n : Nat) (s : State) : Bool :=
  s.ctx.isNone && s.hold.walkIn.allowed && s.hold.clockValid && (planAt s s.hold.walkIn.plan).enabled.has n &&
  decide (s.hold.bookings.length < Config.maxBookings) && windowWide s

/-- R77: REQUEST with no session LIVE. An accepted walk-in handles the key as its session's first (R62, step 4). -/
def requestWalkIn (n : Nat) (s : State) : State :=
  if walkInKeyAllowed n s then
    match startWalkIn .self s with
    | (.done _, t) => requestLive n t
    | (.refused _ _, t) => flash n t
  else flash n s

/-! ### Reconciliation (R48) -/

/-- The pass over the table from the first entry on; `now` is table time when it begins. The entries before the one at
hand have been removed, and none after an entry that contains now, or starts later, needs anything (R48). -/
def reconcileGo (now : Nat) : List Booking → State → State
  | [], s => s
  | b :: rest, s =>
      if b.endAt ≤ now then
        let t := setBookings rest s
        let t :=
          if b.live then
            raise .session 4 b.id (admitRecord { kind := .endd, reason := .outage, detail := some (.endd b.id) } t)
          else raise .session 5 b.id t
        reconcileGo now rest t
      else if b.startAt ≤ now then
        if b.live then startSession .reconcile true s
        else startSession .reconcile false (setBookings ({ b with live := true } :: rest) s)
      else s

def reconcile (s : State) : State := reconcileGo s.hold.tableTime s.hold.bookings s

/-! ### Plan switch (R68, R92, R119, R147, R153) -/

/-- Step 1 of R68 for one seat that the new plan does not enable. -/
def planLeave (n : Nat) (s : State) : State :=
  let t := shareLeave n .plan s
  let t := closeMic n .plan t
  let t := withdraw n .plan t
  releasePriority n t

/-- The category a seat would be opened with (R94). -/
def categoryNow (s : State) (n : Nat) : Category := if chairSeat s n then .chair else .delegate

/-- Step 2 of R68 for one channel. -/
def closeChanged (k : Nat) (s : State) : State :=
  match channelAt s k with
  | none => s
  | some e => if e.category = categoryNow s e.seat then s else closeMic e.seat .plan s

/-- The active plan becomes `p`, and its consequences follow in the order of R68. -/
def switchActivePlan (p : Nat) (s : State) : State :=
  match s.ctx with
  | none => s
  | some c =>
      let old := planAt s c.plan
      let new := planAt s p
      let t := s.setCtx (some { c with plan := p })
      let t := seatNumbers.foldl (fun u n =>
        if present u n && (old.chairs.contains n != new.chairs.contains n) then markLamp n u else u) t
      let t := seatNumbers.foldl (fun u n => if old.enabled.has n && !new.enabled.has n then planLeave n u else u) t
      let t := (List.range 8).foldl (fun u k => closeChanged k u) t
      let t := (seatNumbers.filter fun n => t.chan.holders.contains n).foldl
        (fun u n => if chairSeat u n then u else releasePriority n u) t
      let t := (t.queue.filter fun n => chairSeat t n).foldl (fun u n => withdraw n .plan u) t
      sharePlanCheck t

/-! ### The open limit (R107) -/

/-- Close the most recently opened delegates until the count is at the limit. -/
def lowerTo (limit : Nat) : Nat → State → State
  | 0, s => s
  | fuel + 1, s =>
      if limit < delegateCount s then
        match latestDelegate s with
        | none => s
        | some n => lowerTo limit fuel (closeMic n .order s)
      else s

end Sys2Proof.Machine
end

