-- ==== Sys2Proof/Machine/Station.lean ====
section
/-! DEFINITION. Machine/Station.lean: the station unit (chapter 1): departure, presence, misses and echoes, enumeration,
probe rounds; and the keys, which the floor controller takes from PRESENT seats (chapter 4). -/

namespace Sys2Proof.Machine

/-! ### Departure (R17, R18) -/

/-- R184: the recording station's credit is gone, and a MINUTE in flight forfeits its own. -/
def minutesDepart (s : State) : State :=
  s.setMinutes { s.minutes with credits := 0, flight := s.minutes.flight.map fun _ => true }

/-- The consequences of a departure, after record `n` has left PRESENT: for a seat the six steps of R17, for RECORD those
of R18. ROOM and BRIDGE leave nothing to do. -/
def depart (n : Nat) (s : State) : State :=
  if isSeat n then
    let t := shareLeave n .lost s
    let t := closeMic n .lost t
    let t := withdraw n .lost t
    let t := panelDepart n t
    releasePriority n t
  else if n = 82 then minutesDepart s
  else s

/-- STATION notice with the number as detail (R10, R13, R16). -/
def noticePresence (n : Nat) (s : State) : State := raise .station 1 n s

/-- What other blocks do when record `n` becomes PRESENT: the panel engine (R151), the share controller for the bridge
(R138), the order unit for the room station (R192), the minutes unit for the recording station (R182). -/
def becamePresent (n : Nat) (s : State) : State :=
  let t := noticePresence n (panelPresent n s)
  if n = 81 then offerAlert t
  else if n = 82 then offerMinute t
  else if n = 83 then offerMark .laneBridge t
  else t

/-! ### Misses and echoes (R16) -/

/-- The miss of a PROBE or NUMBER to `n` (R16, right column). -/
def stationMiss (n : Nat) (s : State) : State :=
  let r := station s n
  let m := bump 7 r.missed
  match r.state with
  | .joining =>
      if s.stn.plan.limit ≤ m then noticePresence n (setStation n { r with missed := m, state := .silent } s)
      else setStation n { r with missed := m } s
  | .present =>
      if s.stn.plan.limit ≤ m then
        depart n (noticePresence n (setStation n { r with missed := m, state := .silent } s))
      else setStation n { r with missed := m } s
  | .silent => setStation n { r with missed := m } s
  | .vacant => s
  | .halted => s
  | .bypassed => s

/-- A good cell from `n` that is not an ECHO (R16, left column). -/
def stationGood (n : Nat) (s : State) : State :=
  let r := station s n
  match r.state with
  | .joining => setStation n { r with missed := 0 } s
  | .present => setStation n { r with missed := 0 } s
  | .silent => setStation n { r with missed := 0 } s
  | .vacant => s
  | .halted => s
  | .bypassed => s

/-- An ECHO from `n` (R16): its status is stored, a JOINING or SILENT record becomes PRESENT, and a PRESENT seat whose
microphone state differs from the channel table gets its MIC mark. -/
def stationEcho (n : Nat) (e : EchoStatus) (s : State) : State :=
  let r := station s n
  let here := { r with missed := 0, echo := some e, state := .present }
  let mic (t : State) : State :=
    if isSeat n && (e.mic != micOpen t n) then offerMark (.mic n) t else t
  match r.state with
  | .joining => mic (becamePresent n (setStation n here s))
  | .silent => mic (becamePresent n (setStation n here s))
  | .present => mic (setStation n here s)
  | .vacant => s
  | .halted => s
  | .bypassed => s

/-! ### Enumeration (R13, R14) -/

/-- The kinds of a JOIN (R196, R198). -/
inductive JoinKind where
  | seat
  | service (number : Nat)
  deriving DecidableEq, Repr

/-- The station kind code of a JOIN; none for a byte that holds no kind (log 14). -/
def joinKindOf (n : Nat) : Option JoinKind :=
  if n = 0 then some .seat else if n = 1 then some (.service 81) else if n = 2 then some (.service 82)
  else if n = 3 then some (.service 83) else none

/-- The number a JOIN is given (R13); none when no seat number is left (R14). -/
def joinNumber (s : State) (id : Identity) (k : JoinKind) : Option Nat :=
  match k with
  | .service n => some n
  | .seat =>
      match seatNumbers.find? fun n => decide ((station s n).identity = some id) with
      | some n => some n
      | none => seatNumbers.find? fun n =>
          decide ((station s n).state = .vacant) && (station s n).identity.isNone

/-- R13: the record moves to JOINING and NUMBER is offered. -/
def joinTaken (n : Nat) (id : Identity) (caps : Caps) (s : State) : State :=
  let r := station s n
  let new := { r with identity := some id, caps := if isSeat n then some caps else none, missed := 0, state := .joining }
  let t := setStation n new s
  let t := if r.state = .joining then t else noticePresence n t
  let t := if r.state = .present then depart n t else t
  offer3 (.number id n) t

/-- R14: a refusal raises STATION notice and offers NUMBER with number 0. -/
def joinRefused (event value : Nat) (id : Identity) (s : State) : State :=
  offer3 (.number id 0) (raise .station event value s)

/-- R13 and R14: a JOIN is taken or refused. -/
def join (id : Identity) (k : JoinKind) (caps : Caps) (s : State) : State :=
  match joinNumber s id k with
  | none => joinRefused 3 0 id s
  | some n =>
      match (station s n).state with
      | .halted => joinRefused 2 n id s
      | .bypassed => joinRefused 2 n id s
      | .present => if (station s n).identity = some id then joinTaken n id caps s else joinRefused 2 n id s
      | .vacant => joinTaken n id caps s
      | .joining => joinTaken n id caps s
      | .silent => joinTaken n id caps s

/-! ### Probe rounds (R12, R15, R27) -/

/-- R27: at the end of a round during which a session was LIVE, too few PRESENT seats raise "short" once. -/
def shortCheck (live : Bool) (s : State) : State :=
  let count := (seatNumbers.filter fun n => present s n).length
  if live && decide (count < s.stn.plan.expected) && !s.stn.short then
    raise .station 4 count (s.setStn { s.stn with short := true })
  else s

/-- Take the PROBE of `n` out of the oldest round that still waits for it; none when no round does. -/
def roundsWithout (n : Nat) : List Round → List Round × Option Bool
  | [] => ([], none)
  | r :: rest =>
      if r.out.contains n then
        let left := r.out.erase n
        if left = [] then (rest, some r.live) else ({ r with out := left } :: rest, none)
      else
        let (tail, ended) := roundsWithout n rest
        (r :: tail, ended)

/-- R15: a PROBE of `n` has returned or failed; the last of a round ends it (R27). -/
def probeBack (n : Nat) (s : State) : State :=
  match roundsWithout n s.stn.rounds with
  | (rounds, none) => s.setStn { s.stn with rounds := rounds }
  | (rounds, some live) => shortCheck live (s.setStn { s.stn with rounds := rounds })

/-- The numbers that a new round probes (R15): JOINING, PRESENT and SILENT records with no PROBE waiting. -/
def probeNumbers (s : State) : List Nat :=
  stationNumbers.filter fun n =>
    let r := (station s n).state
    (decide (r = .joining) || decide (r = .present) || decide (r = .silent)) &&
    !(s.sched.class3.contains (.probe n))

/-- R15: one probe round. -/
def probeRound (s : State) : State :=
  let t := s.setStn { s.stn with period := s.stn.plan.period }
  let t := if t.sched.class3.contains .assign then t else offer3 .assign t
  let ns := probeNumbers t
  let t := ns.foldl (fun u n => offer3 (.probe n) u) t
  if ns = [] then shortCheck (sessionLive t) t
  else t.setStn { t.stn with rounds := t.stn.rounds ++ [{ out := ns, live := sessionLive t }] }

/-! ### RESUME (R20) -/

/-- Whether a RESUME for `n` waits in the scheduler or is in flight. -/
def resumeOut (s : State) (n : Nat) : Bool :=
  let isResume (c : StationCell) : Bool :=
    match c with
    | .resume m _ => m == n
    | _ => false
  s.sched.class3.any isResume ||
  match s.ring.flight with
  | none => false
  | some f =>
      match f.cell with
      | some (.station c) => isResume c
      | _ => false

/-- R20: the placement of a RESUME makes a HALTED record VACANT; it keeps its identity and loses its halt time. -/
def resumePlaced (n : Nat) (s : State) : State :=
  let r := station s n
  if r.state = .halted then
    setStation n { r with state := .vacant, haltTime := none, haltOver := false, heldResume := false } s
  else s

/-! ### Keys (R75, R76, R23) -/

/-- R23: KEY CALL. -/
def keyCall (n : Nat) (s : State) : State :=
  let r := station s n
  if r.call then s
  else markLamp n (raise .call 1 n (setStation n { r with call := true } s))

/-- R56: KEY EXTEND from a chair seat; a refusal shows REFUSED. -/
def keyExtend (n : Nat) (s : State) : State :=
  match requestExtension .chair s with
  | (.taken _ _, t) => t
  | (_, t) => flash n t

/-- R76: keys 2 to 5 are honoured from a chair seat of the active plan alone. -/
def chairOnly (n : Nat) (f : State → State) (s : State) : State := if chairSeat s n then f s else flash n s

/-- R75: the key codes. A code outside 1 to 7 is discarded. -/
def handleKey (n code : Nat) (s : State) : State :=
  match code with
  | 1 => if sessionLive s then requestLive n s else requestWalkIn n s
  | 2 => chairOnly n (keyPriorityDown n) s
  | 3 => chairOnly n (keyPriorityUp n) s
  | 4 => chairOnly n (keyNext n) s
  | 5 => chairOnly n (keyExtend n) s
  | 6 => keyShare n s
  | 7 => keyCall n s
  | _ => s

/-- R18, R75, R207: a KEY cell. Only a PRESENT seat's reaches the floor controller; it restarts the cadence request
timer before its body is read. -/
def keyArrives (n : Nat) (body : List Byte) (s : State) : State :=
  if isSeat n && present s n then
    let t := startCadenceTimer s
    match body with
    | [k] => handleKey n k.toNat t
    | _ => t
  else s

end Sys2Proof.Machine
end

