-- ==== Sys2Proof/Machine/Mix.lean ====
section
/-! DEFINITION. Machine/Mix.lean: the mix engine (chapter 6): gains, bus forming, and the sample clock. -/

namespace Sys2Proof.Machine

/-! ### Gains (R123, R128) -/

/-- Whether `r` lies at or below the nearest integer to y × 10^(−3k/40), halves going away from zero: r − 1/2 is at most
the product, both sides raised to the fortieth power. -/
def reaches (k y r : Nat) : Bool := decide ((2 * r - 1) ^ 40 * 10 ^ (3 * k) ≤ (2 * y) ^ 40)

/-- The nearest integer to y × 10^(−3k/40), found bit by bit from the top. -/
def nearestGo (k y : Nat) : Nat → Nat → Nat
  | 0, acc => acc
  | b + 1, acc => nearestGo k y b (if reaches k y (acc + 2 ^ b) then acc + 2 ^ b else acc)

/-- The product of a sample's magnitude and the factor of code 40 − k, rounded (R128). A sample has at most 24 bits. -/
def nearest (k y : Nat) : Nat := nearestGo k y 24 0

/-- A sample times the factor of a gain code, rounded to the nearest integer, halves away from zero (R123, R128): code 0
is mute, and code n stands for (n − 40) × 1.5 dB, a factor of 10^(−3 (40 − n) / 40). -/
def gainProduct (code : Nat) (x : Int) : Int :=
  if code = 0 then 0
  else if 0 ≤ x then (nearest (40 - code) x.natAbs : Int) else -(nearest (40 - code) x.natAbs : Int)

/-- The effective gain code of microphone channel `k` on a bus (R125). -/
def micGain (s : State) (bus k : Nat) : Nat :=
  match channelAt s k with
  | none => 0
  | some e =>
      if e.suppressed then
        match s.ctx with
        | none => gainCode s bus k
        | some c => min (gainCode s bus k) c.profile.duckGain
      else gainCode s bus k

/-- The effective gain code of SHARE on a bus (R125). -/
def shareGain (s : State) (bus : Nat) : Nat :=
  match s.share.holder with
  | none => 0
  | some h => if bus = 3 ∧ h.far = false then 0 else gainCode s bus 8

/-- The exact sum of the ten rounded products on a bus (R128). -/
def busSum (s : State) (bus : Nat) (x : Slots) : Int :=
  ((List.range 8).map fun k => gainProduct (micGain s bus k) ((x.mics[k]?).getD 0).toInt).sum +
  gainProduct (shareGain s bus) x.share.toInt + gainProduct (gainCode s bus 9) x.farIn.toInt

/-- Whether a sum lies outside the range of a sample (R128). -/
def saturates (n : Int) : Bool := decide (n < -8388608) || decide (8388607 < n)

/-- The bus sample of a sum (R128). -/
def clampSample (n : Int) : Sample := BitVec.ofInt 24 (max (-8388608) (min 8388607 n))

/-- The bus sample: silence behind a closed gate (R127). -/
def busSample (s : State) (x : Slots) (bus : Nat) : Sample := if gateOpen s bus then clampSample (busSum s bus x) else 0

/-- The clip counts after a formation: a saturated open bus counts once (R128). -/
def clipsAfter (s : State) (x : Slots) : Vector Nat 4 :=
  s.mix.clips.zipWith (fun c bus => if gateOpen s bus && saturates (busSum s bus x) then bump 65535 c else c)
    #v[0, 1, 2, 3]

/-- One formation (R126): the four buses wait for the frame emitted next. -/
def formBuses (x : Slots) (s : State) : State :=
  s.setMix { s.mix with
    clips := clipsAfter s x,
    formed := some { floor := busSample s x 0, chair := busSample s x 1, record := busSample s x 2,
                     far := busSample s x 3 } }

/-- The slots of a frame that brings back no samples (R121). -/
def silentSlots : Slots := { mics := Vector.replicate 8 0, share := 0, farIn := 0 }

/-- Four silent downlink slots (R2). -/
def silentBuses : Buses := { floor := 0, chair := 0, record := 0, far := 0 }

/-! ### The sample clock (R130 to R134) -/

/-- R131: EXTERNAL LOSS. -/
def externalLost (s : State) : State :=
  match s.mix.inUse with
  | .external =>
      raise .clock 1 0 (s.setMix { s.mix with inUse := .internal, fault := true, present := false })
  | .internal => s.setMix { s.mix with present := false }

/-- R134: a ring plan load that is taken sets the selection. -/
def selectClock (x : ClockSource) (s : State) : State :=
  match s.mix.selection, x with
  | .internal, .external =>
      if s.mix.fault then s.setMix { s.mix with selection := .external }
      else if s.mix.present then s.setMix { s.mix with selection := .external, inUse := .external }
      else raise .clock 1 0 (s.setMix { s.mix with selection := .external, fault := true })
  | .external, .internal => s.setMix { s.mix with selection := .internal, inUse := .internal }
  | .internal, .internal => s
  | .external, .external => s

end Sys2Proof.Machine
end

