-- ==== Sys2Proof/Machine/Wire.lean ====
section
/-! DEFINITION. Machine/Wire.lean: the wire layouts of section 10.7: the codes of the enumerations (R196, R202), the
check (R197), and the cells the controller emits and accepts, byte by byte. -/

namespace Sys2Proof.Machine

/-! ### Enumerations (R196) -/

def FloorMode.code : FloorMode → Nat
  | .queue => 0
  | .chair => 1
  | .free => 2

def LimitAction.code : LimitAction → Nat
  | .close => 0
  | .flag => 1

def FullAction.code : FullAction → Nat
  | .refuse => 0
  | .replace => 1
  | .wait => 2

def PriorityMode.code : PriorityMode → Nat
  | .duck => 0
  | .close => 1

/-- The hold mode (R196): 0 absent. -/
def holdModeCode : Option PriorityMode → Nat
  | none => 0
  | some .duck => 1
  | some .close => 2

def MinutesMode.code : MinutesMode → Nat
  | .strict => 0
  | .loose => 1

def SharePolicy.code : SharePolicy → Nat
  | .speaker => 0
  | .right => 1

def Phase.code : Phase → Nat
  | .live => 0
  | .warned => 1
  | .ending => 2

/-- The station kind of a number (R11, R196). -/
def stationKind (n : Nat) : Nat := if n = 81 then 1 else if n = 82 then 2 else if n = 83 then 3 else 0

def StationState.code : StationState → Nat
  | .vacant => 0
  | .joining => 1
  | .present => 2
  | .silent => 3
  | .halted => 4
  | .bypassed => 5

def Category.code : Category → Nat
  | .delegate => 0
  | .chair => 1

def Page.code : Page → Nat
  | .speakers => 0
  | .queue => 1
  | .agenda => 2
  | .message => 3
  | .share => 4
  | .blank => 5

def Canvas.code : Canvas → Nat
  | .agenda => 0
  | .message => 1

def Lamp.code : Lamp → Nat
  | .off => 0
  | .waiting => 1
  | .next => 2
  | .live => 3
  | .warn => 4
  | .suppressed => 5
  | .refused => 6

def Supply.code : Supply → Nat
  | .run => 0
  | .hold => 1
  | .off => 2

/-- The backup condition (R196). -/
def backupCode : BackupCond → Nat
  | .low => 0
  | .ok => 1

def Cadence.code : Cadence → Nat
  | .full => 0
  | .idle => 1

def ClockSource.code : ClockSource → Nat
  | .internal => 0
  | .external => 1

/-- The event of a START notice (R196). -/
def StartCause.code : StartCause → Nat
  | .coldStart => 1
  | .supplyReturn => 2
  | .resetLine => 3
  | .restartOrder => 4

/-- Causes and reasons of minute records and channels (R202). -/
def Reason.code : Reason → Nat
  | .time => 1
  | .reconcile => 2
  | .self => 3
  | .order => 4
  | .outage => 5
  | .chair => 6
  | .dropped => 7
  | .queue => 8
  | .free => 9
  | .priority => 10
  | .limit => 11
  | .replaced => 12
  | .lost => 13
  | .plan => 14
  | .session => 15
  | .grace => 16

/-- R189. -/
def Status.code : Status → Nat
  | .done => 0
  | .unknown => 1
  | .malformed => 2
  | .range => 3
  | .noRight => 4
  | .noSession => 5
  | .state => 6
  | .full => 7
  | .overlap => 8
  | .frozen => 9
  | .guardLock => 10
  | .logFull => 11
  | .busy => 12
  | .absent => 13

/-! ### Composite fields (R196, R198) -/

/-- A profile as it is carried (R196). -/
def Profile.raw (p : Profile) : RawProfile :=
  { floorMode := p.floorMode.code, openLimit := p.openLimit, speakLimit := p.speakLimit, warnLead := p.warnLead,
    limitAction := p.limitAction.code, fullAction := p.fullAction.code, priorityMode := p.priorityMode.code,
    duckGain := p.duckGain, grade := p.grade, minutesMode := p.minutesMode.code, sharePolicy := p.sharePolicy.code,
    shareGrace := p.shareGrace, openMute := p.openMute.toNat, endLead := p.endLead, extStep := p.extStep }

def Profile.bytes (p : Profile) : List Byte := p.raw.bytes

/-- Capabilities as in JOIN (R198). -/
def Caps.byte (c : Caps) : Byte := Sys2Proof.byte (c.screen.toNat + 2 * c.content.toNat)

/-- The capabilities a JOIN byte holds; the other bits are ignored (log 18). -/
def capsOf (b : Byte) : Caps := { screen := b.getLsbD 0, content := b.getLsbD 1 }

/-- Unit status as in ECHO (R198). -/
def EchoStatus.byte (e : EchoStatus) : Byte := Sys2Proof.byte (e.mic.toNat + 2 * e.content.toNat)

/-- The unit status an ECHO byte holds; the other bits are ignored (log 18). -/
def echoOf (b : Byte) : EchoStatus := { mic := b.getLsbD 0, content := b.getLsbD 1 }

/-- The body of a LAMP cell (R198). -/
def LampContent.bytes (c : LampContent) : List Byte := [byte c.lamp.code, flagByte c.call, flagByte c.chairBus]

/-- The body of a PANEL cell (R198). -/
def PieceBody.bytes : PieceBody → List Byte
  | .page p => [0, byte p.code]
  | .text c l t => [1, byte c.code, byte l, byte t.length] ++ t
  | .tile c x y k m first last d =>
      [2, byte c.code, byte x, byte y, byte k, byte m, byte first, byte last] ++ d
  | .fill c x0 x1 y0 y1 set => [3, byte c.code, byte x0, byte x1, byte y0, byte y1, flagByte set]

/-- One entry of a LIST cell (R203). -/
def ListEntry.bytes (e : ListEntry) : List Byte := [byte e.seat, byte e.state] ++ bytes2 e.value

/-- The detail fields of a minute record at their bytes 15 to 27 (R202). -/
structure DetailFields where
  id        : Nat := 0
  organiser : Nat := 0
  plan      : Nat := 0
  grade     : Nat := 0
  resumed   : Bool := false
  newEnd    : Nat := 0
  drop      : Nat := 0

def Detail.fields : Detail → DetailFields
  | .start id o p g r => { id := id, organiser := o, plan := p, grade := g, resumed := r }
  | .endd id => { id := id }
  | .extended id e => { id := id, newEnd := e }
  | .grade id g => { id := id, grade := g }
  | .plan id p => { id := id, plan := p }
  | .gap n => { drop := n }

/-- The body of a MINUTE cell: 28 bytes (R202). -/
def MinuteRecord.bytes (r : MinuteRecord) : List Byte :=
  let d := (r.detail.map Detail.fields).getD {}
  let presence := r.seat.isSome.toNat + 2 * r.channel.isSome.toNat + 4 * r.duration.isSome.toNat +
    8 * r.detail.isSome.toNat
  bytes2 r.seq ++ bytes4 r.time ++
  [byte r.kind.code, byte presence, byte (r.seat.getD 0), byte (r.channel.getD 0), byte r.reason.code] ++
  bytes4 (r.duration.getD 0) ++ bytes2 d.id ++ bytes2 d.organiser ++
  [byte d.plan, byte d.grade, flagByte d.resumed] ++ bytes4 d.newEnd ++ bytes2 d.drop

/-- The body of an ANSWER cell (R199). -/
def Answer.bytes (a : Answer) : List Byte :=
  [byte a.code, byte a.status.code, byte a.part, byte a.parts] ++ a.result

/-! ### The check (R8, R197) -/

/-- One bit of the CRC-16 with polynomial x^16+x^12+x^5+1. -/
def crcBit (c : BitVec 16) : BitVec 16 := if c.getMsbD 0 then (c <<< 1) ^^^ 0x1021#16 else c <<< 1

/-- One byte, most significant bit first. -/
def crcByte (c : BitVec 16) (b : Byte) : BitVec 16 :=
  (List.range 8).foldl (fun x _ => crcBit x) (c ^^^ (b.setWidth 16 <<< 8))

/-- The check over header and body: starts from all ones, no final inversion. -/
def crc16 (l : List Byte) : BitVec 16 := l.foldl crcByte 0xFFFF#16

/-- A cell as it stands in the lane (R197). -/
def cellBytes (dest source kind tag : Nat) (body : List Byte) : List Byte :=
  let front := [byte dest, byte source, byte kind, byte tag, byte body.length] ++ body
  front ++ bytes2 (crc16 front).toNat

/-! ### The cells the controller emits (R197 to R199) -/

/-- The destination of a station cell: 126 for ASSIGN, NUMBER (log 15) and the two cells of R28. -/
def StationCell.dest : StationCell → Nat
  | .assign => 126
  | .number _ _ => 126
  | .probe n => n
  | .halt n _ => n
  | .resume n _ => n
  | .bypass n _ => n
  | .unbypass n _ _ => n
  | .resumeAll => 126
  | .unbypassAll => 126

def StationCell.kind : StationCell → Nat
  | .assign => 0x01
  | .number _ _ => 0x02
  | .probe _ => 0x03
  | .halt _ _ => 0x04
  | .resume _ _ => 0x05
  | .bypass _ _ => 0x06
  | .unbypass _ _ _ => 0x07
  | .resumeAll => 0x05
  | .unbypassAll => 0x07

def StationCell.body : StationCell → List Byte
  | .assign => []
  | .number id given => bytes6 id.toNat ++ [byte given]
  | .probe _ => []
  | .halt _ _ => []
  | .resume _ _ => []
  | .bypass _ _ => []
  | .unbypass _ none _ => []
  | .unbypass _ (some id) _ => bytes6 id.toNat
  | .resumeAll => []
  | .unbypassAll => []

def OutCell.dest : OutCell → Nat
  | .mic n _ => n
  | .laneSeat n _ => n
  | .laneBridge _ _ => 83
  | .answer a => a.dest
  | .alert _ => 81
  | .station c => c.dest
  | .lamp n _ => n
  | .list n _ => n
  | .page n _ => n
  | .piece n _ _ => n
  | .minute _ => 82

def OutCell.kind : OutCell → Nat
  | .mic _ _ => 0x08
  | .laneSeat _ _ => 0x0C
  | .laneBridge _ _ => 0x0C
  | .answer _ => 0x0E
  | .alert _ => 0x0F
  | .station c => c.kind
  | .lamp _ _ => 0x09
  | .list _ _ => 0x0A
  | .page _ _ => 0x0B
  | .piece _ _ _ => 0x0B
  | .minute _ => 0x0D

/-- An ANSWER carries its ORDER's tag; every other controller cell carries tag 0 (R189). -/
def OutCell.tag : OutCell → Nat
  | .mic _ _ => 0
  | .laneSeat _ _ => 0
  | .laneBridge _ _ => 0
  | .answer a => a.tag
  | .alert _ => 0
  | .station _ => 0
  | .lamp _ _ => 0
  | .list _ _ => 0
  | .page _ _ => 0
  | .piece _ _ _ => 0
  | .minute _ => 0

def OutCell.body : OutCell → List Byte
  | .mic _ none => [0, 0, 0]
  | .mic _ (some (channel, mute)) => [1, byte channel, flagByte mute]
  | .laneSeat _ on => [flagByte on]
  | .laneBridge holder far => [byte holder, flagByte far]
  | .answer a => a.bytes
  | .alert cause => [byte cause]
  | .station c => c.body
  | .lamp _ c => c.bytes
  | .list _ l => (l.map ListEntry.bytes).flatten
  | .page _ p => (PieceBody.page p).bytes
  | .piece _ _ b => b.bytes
  | .minute r => r.bytes

/-- The cell in the lane; the controller's address is 0. -/
def OutCell.bytes (c : OutCell) : List Byte := cellBytes c.dest 0 c.kind c.tag c.body

/-! ### The cells the controller accepts (R7, R8, R197) -/

/-- Station to controller. -/
inductive InKind where
  | join
  | echo
  | key
  | order
  | pace
  deriving DecidableEq, Repr

def inKindOf (n : Nat) : Option InKind :=
  if n = 0x21 then some .join else if n = 0x22 then some .echo else if n = 0x23 then some .key
  else if n = 0x24 then some .order else if n = 0x25 then some .pace else none

structure InCell where
  dest   : Nat
  source : Nat
  kind   : InKind
  tag    : Nat
  body   : List Byte
  deriving DecidableEq, Repr

/-- The good cell that the lane's bytes spell; none for a bad cell (R8): a length over 32 or not the lane's (log 16), a
failed check, or a kind that no station sends, whatever its destination (log 52). -/
def parseCell (l : List Byte) : Option InCell :=
  if u8 l 4 ≤ 32 ∧ l.length = 7 + u8 l 4 ∧
     bytes2 (crc16 (l.take (l.length - 2))).toNat = l.drop (l.length - 2) then
    (inKindOf (u8 l 2)).map fun k =>
      { dest := u8 l 0, source := u8 l 1, kind := k, tag := u8 l 3, body := (l.drop 5).take (u8 l 4) }
  else none

/-- What a returned lane holds, as R7 tells the cases apart. -/
inductive Lane where
  | empty
  | own
  | bad
  | good (c : InCell)
  deriving DecidableEq, Repr

def judgeLane (placed : Option OutCell) (l : List Byte) : Lane :=
  if l = [] then .empty
  else if placed.map OutCell.bytes = some l then .own
  else
    match parseCell l with
    | none => .bad
    | some c => .good c

end Sys2Proof.Machine
end

