-- ==== Sys2Proof/Machine/Orders.lean ====
section
/-! DEFINITION. Machine/Orders.lean: the order unit (chapter 10): the checks at an order's arrival, the answers, and the
carrying out of one order. -/

namespace Sys2Proof.Machine

/-! ### Arrival (R187) -/

/-- What the arrival checks look at (R187, R199). -/
structure OrderCell where
  source : Nat
  tag    : Nat
  code   : Nat
  part   : Nat
  deriving DecidableEq, Repr

/-- An order refused at arrival is answered at once with no result (R199). No ALERT follows that answer, though the
order be a TAKE NOTICE (R192, log 49). -/
def answerRefusal (o : OrderCell) (status : Status) (s : State) : State :=
  offer2 (.answer { dest := o.source, tag := o.tag, code := o.code, status := status, part := o.part,
                    parts := partsOf o.code, result := [] }) s

/-- The first of the four checks that fails (R187). `shaped`: the length fits the code. -/
def arrivalStatus (s : State) (o : OrderCell) (shaped : Bool) : Option Status :=
  if !(decide (o.source = 81) && present s 81) then some .noRight
  else if !(orderCodes.contains o.code) then some .unknown
  else if !(shaped && decide (o.part < partsOf o.code)) then some .malformed
  else if Config.maxInbound ≤ s.orders.inbound.length then some .busy
  else none

/-- Append an order at the tail of the inbound queue. -/
def enqueueOrder (i : Instr) (s : State) : State :=
  s.setOrders { s.orders with inbound := s.orders.inbound ++ [i] }

/-- The body of an ORDER cell arrives. A body shorter than the common head has no part, and reads as part 0 (log 17). -/
def arriveBody (source tag : Nat) (body : List Byte) (s : State) : State :=
  let o : OrderCell := { source := source, tag := tag, code := u8 body 0, part := u8 body 1 }
  let order := if 2 ≤ body.length then
      parseOrder { source := source, tag := tag, part := o.part } o.code (body.drop 2)
    else none
  match arrivalStatus s o order.isSome, order with
  | some status, _ => answerRefusal o status s
  | none, some i => enqueueOrder i s
  | none, none => s

/-- An order command that does not stand at the head of the inbound queue arrives now; it is no good cell of R16, and
the missed count of its source stands (log 3). -/
def arriveOrder (i : Instr) (h : OrderHead) (code : Nat) (s : State) : State :=
  let o : OrderCell := { source := h.source, tag := h.tag, code := code, part := h.part }
  match arrivalStatus s o i.wellFormed with
  | some status => answerRefusal o status s
  | none => enqueueOrder i s

/-! ### Answers (R188, R189, R201) -/

/-- What an owner goes on with once its answer has been offered (R30, R188, R193). -/
inductive Follow where
  | nothing
  | alert
  | reconcile
  deriving DecidableEq, Repr

/-- What the owner of an order gives back. -/
structure Reply where
  state  : State
  status : Status
  result : List Byte := []
  follow : Follow := .nothing

/-- Taken: DONE with a result. -/
def done (result : List Byte) (s : State) : Reply := { state := s, status := .done, result := result }

/-- Refused with a status; a refusal changes nothing but what its rule names (R44). -/
def refuse (status : Status) (s : State) : Reply := { state := s, status := status }

/-- OVERLAP carries an id (R189, R201). -/
def refuseOverlap (id : Nat) (s : State) : Reply := { state := s, status := .overlap, result := bytes2 id }

/-- The part of a result that an answer carries: bytes 28k to 28k + 27 (R201). -/
def resultPart (result : List Byte) (k : Nat) : List Byte := (result.drop (28 * k)).take 28

/-- The ANSWER to an order that has been carried out (R189, R199). -/
def answerOf (h : OrderHead) (code : Nat) (r : Reply) : Answer :=
  { dest := h.source, tag := h.tag, code := code, status := r.status, part := h.part, parts := partsOf code,
    result := resultPart r.result h.part }

/-- The head order leaves the inbound queue (R188). -/
def popInbound (s : State) : State := s.setOrders { s.orders with inbound := s.orders.inbound.tail }

def followUp : Follow → State → State
  | .nothing, s => s
  | .alert, s => offerAlert s
  | .reconcile, s => reconcile s

/-- R188: the head order is carried out, its ANSWER is offered, and it leaves the queue. -/
def carryOut (h : OrderHead) (code : Nat) (owner : State → Reply) (s : State) : State :=
  let r := owner s
  followUp r.follow (popInbound (offer2 (.answer (answerOf h code r)) r.state))

/-- The order stands at the head of the inbound queue. -/
def atHead (i : Instr) (s : State) : Bool := decide (s.orders.inbound.head? = some i)

/-- An order command: the order is carried out when it stands at the head of the inbound queue. If it does not stand there,
it arrives first (log 3). With the main domain unpowered or in reset no cell is taken (R204, R209). -/
def runOrder (i : Instr) (h : OrderHead) (code : Nat) (owner : State → Reply) (s : State) : State :=
  if mainRunning s then
    let t := if atHead i s then s else arriveOrder i h code s
    settle (if atHead i t then carryOut h code owner t else t)
  else s

end Sys2Proof.Machine
end

