-- ==== Sys2Proof/Machine/Ring.lean ====
section
/-! DEFINITION. Machine/Ring.lean: the ring unit (chapter 1): placement by the outbound scheduler, emission, the outcomes
of placed cells, the routing of inbound cells, failure and break. -/

namespace Sys2Proof.Machine

/-! ### Placement (R4, R5) -/

/-- The cell that a mark becomes at its placement (R100, R138). -/
def buildMark (s : State) : Mark → OutCell
  | .mic n =>
      match channelOf s n with
      | none => .mic n none
      | some k => .mic n ((channelAt s k).map fun e => (k, e.mute))
  | .laneSeat n => .laneSeat n (isHolder s n)
  | .laneBridge =>
      match s.share.holder with
      | none => .laneBridge 0 false
      | some h => .laneBridge h.seat h.far

/-- What the placement of a station cell does to its record (R20). -/
def stationPlaced (c : StationCell) (s : State) : State :=
  match c with
  | .resume n _ => resumePlaced n s
  | _ => s

def setLast4 (p : Producer) (s : State) : State := s.setSched { s.sched with last4 := p }

/-- Place the MINUTE that waits. -/
def placeMinute (r : MinuteRecord) (s : State) : Option OutCell × State :=
  (some (.minute r), setLast4 .minutes (s.setSched { s.sched with minute := none }))

/-- Place the presentation cell that waits, as it was built. -/
def placePresentation (c : OutCell) (s : State) : Option OutCell × State :=
  (some c, setLast4 .presentation (s.setSched { s.sched with presentation := none }))

/-- Class 4 (R5): the presentation cell and the MINUTE, by turns when both wait. -/
def placeClass4 (s : State) : Option OutCell × State :=
  match s.sched.presentation, s.sched.minute with
  | none, none => (none, s)
  | some c, none => placePresentation c s
  | none, some r => placeMinute r s
  | some c, some r =>
      match s.sched.last4 with
      | .minutes => placePresentation c s
      | .presentation => placeMinute r s

/-- Class 3: in the order of offer. -/
def placeClass3 (s : State) : Option OutCell × State :=
  match s.sched.class3 with
  | [] => placeClass4 s
  | c :: rest => (some (.station c), stationPlaced c (s.setSched { s.sched with class3 := rest }))

/-- Class 2: an ALERT is built with the highest cause pending and unmasked at that moment, 0 for none (R192). -/
def placeClass2 (s : State) : Option OutCell × State :=
  match s.sched.class2 with
  | [] => placeClass3 s
  | .answer a :: rest => (some (.answer a), s.setSched { s.sched with class2 := rest })
  | .alert :: rest =>
      (some (.alert (highestCause s)),
       (s.setSched { s.sched with class2 := rest }).setOrders { s.orders with alert := .inFlight })

/-- R4: one waiting cell, by class in strict priority. -/
def placeCell (s : State) : Option OutCell × State :=
  match s.sched.class1 with
  | [] => placeClass2 s
  | m :: rest => (some (buildMark s m), s.setSched { s.sched with class1 := rest })

/-! ### Emission (R2, R3, R126, R133) -/

/-- The cadence of the frame about to be emitted: the first after a restart goes out at IDLE, whatever reconciliation has
started (R206, log 43). -/
def frameCadence (s : State) : Cadence := if s.ring.fresh then .idle else s.sup.cadence

/-- The downlink slots of the frame about to be emitted: the last formation at FULL cadence, silence otherwise (R126). -/
def downlink (s : State) : Buses :=
  match frameCadence s, s.mix.formed with
  | .full, some b => b
  | .full, none => silentBuses
  | .idle, _ => silentBuses

/-- The frame goes out with the cell placed, and with silence in every slot that the mix engine only reads (R121); the
next number wraps from 4095 to 0 (R2). -/
def sendFrame (cell : Option OutCell) (s : State) : State :=
  let t := s.setRing { s.ring with
    nextFrame := (s.ring.nextFrame + 1) % 4096, fresh := false,
    flight := some { number := s.ring.nextFrame, cell := cell, up := silentSlots, down := downlink s,
                     cadence := frameCadence s, clock := s.mix.inUse } }
  t.setMix { t.mix with formed := none }

/-- R2 and R3: a frame whose number is a multiple of 4 leaves its lane open; any other carries the scheduler's cell. What
the failure of the frame before has made ready is offered first (R167, log 8). -/
def emitFrame (s : State) : State :=
  let s := offerPresentation s
  if s.ring.nextFrame % 4 = 0 then sendFrame none s
  else
    let (cell, t) := placeCell s
    sendFrame cell t

/-! ### Misses (R9) -/

/-- A cell of HALT, RESUME, BYPASS or UNBYPASS is sent again while it has been sent fewer times than the missed limit and
the record is still in the state it led to. -/
def resend (s : State) (n sends : Nat) (state : StationState) : Bool :=
  decide (sends + 1 < s.stn.plan.limit) && decide ((station s n).state = state)

def stationCellMiss (c : StationCell) (s : State) : State :=
  match c with
  | .assign => s
  | .number id given =>
      if (station s given).state = .joining ∧ (station s given).identity = some id then stationMiss given s else s
  | .probe n => stationMiss n s
  | .halt n k => if resend s n k .halted then offer3 (.halt n (k + 1)) s else s
  | .resume n k => if resend s n k .vacant then offer3 (.resume n (k + 1)) s else s
  | .bypass n k => if resend s n k .bypassed then offer3 (.bypass n (k + 1)) s else s
  | .unbypass n id k => if resend s n k .joining then offer3 (.unbypass n id (k + 1)) s else s
  | .resumeAll => s
  | .unbypassAll => s

/-- R183: the miss of a MINUTE gives its credit back unless it is forfeit. -/
def minuteMiss (s : State) : State :=
  let credits := match s.minutes.flight with
    | some false => min 32 (s.minutes.credits + 1)
    | some true => s.minutes.credits
    | none => s.minutes.credits
  offerMinute (s.setMinutes { s.minutes with credits := credits, flight := none })

/-- R183: a consumed MINUTE removes the head record, and then hands its occasion to auto-open and to handover. -/
def minuteConsumed (s : State) : State :=
  let t := s.setMinutes { s.minutes with queue := s.minutes.queue.tail, flight := none }
  offerMinute (handover (autoOpen t))

/-- R192: an ALERT's life has ended, and another is offered if one is due. -/
def alertOver (s : State) : State := s.setOrders { s.orders with alert := .none }

/-- R210: the frame that carried the ANSWER of a RESTART has returned or failed. -/
def answerBack (a : Answer) (s : State) : State :=
  if a.code = 0x98 ∧ a.status = .done ∧ s.sup.restart = .answering then
    s.setSup { s.sup with restart := .ready }
  else s

/-- R9: the fate of a cell that has missed. -/
def cellMiss (c : OutCell) (s : State) : State :=
  match c with
  | .mic n _ => if present s n then offerMark (.mic n) s else s
  | .laneSeat n _ => if present s n then offerMark (.laneSeat n) s else s
  | .laneBridge _ _ => if present s 83 then offerMark .laneBridge s else s
  | .answer a => answerBack a s
  | .alert _ => offerAlert (alertOver s)
  | .station c => stationCellMiss c s
  | .lamp n _ => lampMissed n s
  | .list n _ => listMissed n s
  | .page n _ => pageMissed n s
  | .piece n counts _ => if counts then pieceOutcome n false s else s
  | .minute _ => minuteMiss s

/-- The end of a cell that has been consumed. -/
def cellConsumed (c : OutCell) (s : State) : State :=
  match c with
  | .mic _ _ => s
  | .laneSeat _ _ => s
  | .laneBridge _ _ => s
  | .answer a => answerBack a s
  | .alert cause => if cause = highestCause s then alertOver s else offerAlert (alertOver s)
  | .station _ => s
  | .lamp n c => lampConsumed n c s
  | .list _ _ => s
  | .page _ _ => s
  | .piece n counts _ => if counts then pieceOutcome n true s else s
  | .minute _ => minuteConsumed s

/-! ### The lane of a returned frame (R7) -/

/-- Whether the lane's content makes a placed cell a consumed one (R7): a PROBE wants an ECHO of its station, an ASSIGN a
JOIN, and any other cell a lane that does not hold it any more, nor a bad cell. -/
def laneConsumes (c : OutCell) (l : Lane) : Bool :=
  match l with
  | .own => false
  | .bad => false
  | .empty =>
      match c with
      | .station (.probe _) => false
      | .station .assign => false
      | _ => true
  | .good i =>
      match c with
      | .station (.probe n) => i.dest == 0 && decide (i.kind = .echo) && i.source == n
      | .station .assign => i.dest == 0 && decide (i.kind = .join)
      | _ => true

/-- The outcome of the controller's cell, if one was placed. -/
def placedOutcome (cell : Option OutCell) (l : Lane) (s : State) : State :=
  match cell with
  | none => s
  | some c => if laneConsumes c l then cellConsumed c s else cellMiss c s

/-- R13, R198: a JOIN; a body of another length, or a kind that is none (log 14), is discarded. -/
def joinArrives (body : List Byte) (s : State) : State :=
  if body.length = 8 then
    match joinKindOf (u8 body 6) with
    | none => s
    | some k => join (identityAt body 0) k (capsOf (body.getD 7 0)) s
  else s

/-- R181: a PACE. -/
def paceArrives (n : Nat) (body : List Byte) (s : State) : State :=
  match body with
  | [k] =>
      if n = 82 ∧ present s 82 = true then
        offerMinute (s.setMinutes { s.minutes with credits := min 32 (s.minutes.credits + k.toNat) })
      else s
  | _ => s

/-- R7: an inbound cell to destination 0 is routed by kind, after R16 has applied to it. A cell to another destination is
discarded (log 12). -/
def routeCell (c : InCell) (s : State) : State :=
  if c.dest = 0 then
    match c.kind with
    | .echo =>
        match c.body with
        | [b] => stationEcho c.source (echoOf b) s
        | _ => stationGood c.source s
    | .join => joinArrives c.body (stationGood c.source s)
    | .key => keyArrives c.source c.body (stationGood c.source s)
    | .order => arriveBody c.source c.tag c.body (stationGood c.source s)
    | .pace => paceArrives c.source c.body (stationGood c.source s)
  else s

/-- The inbound side of the lane: a bad cell is counted (R8), a good one is routed. -/
def laneArrives (l : Lane) (s : State) : State :=
  match l with
  | .empty => s
  | .own => s
  | .bad => s.setRing { s.ring with badCells := bump 65535 s.ring.badCells }
  | .good c => routeCell c s

/-! ### Return, failure and break (R6, R10, R126) -/

/-- A formation for a frame that was emitted at FULL cadence (R126). -/
def formFor (cadence : Cadence) (x : Slots) (s : State) : State :=
  match cadence with
  | .full => formBuses x s
  | .idle => s

/-- R10: the first frame that returns while BROKEN restores the ring. -/
def restoreRing (s : State) : State :=
  if s.ring.broken then raise .ring 2 0 (s.setRing { s.ring with broken := false }) else s

/-- R15: the PROBE that the frame carried has returned or failed; its round may end with it (R27). -/
def probeOver (cell : Option OutCell) (s : State) : State :=
  match cell with
  | some (.station (.probe n)) => probeBack n s
  | _ => s

/-- The outstanding frame has returned (R6, R7): the outcome of the cell placed, the inbound cell, the end of a probe
round, the formation (log 11). -/
def returnFrame (f : Flight) (lane : List Byte) (x : Slots) (s : State) : State :=
  let l := judgeLane f.cell lane
  let t := restoreRing (s.setRing { s.ring with flight := none, failures := 0 })
  formFor f.cadence x (probeOver f.cell (laneArrives l (placedOutcome f.cell l t)))

/-- Every PRESENT or JOINING station becomes SILENT, ascending (R10). -/
def silenceAll (ns : List Nat) (s : State) : State :=
  ns.foldl (fun t n => setStation n { station t n with state := .silent } t) s

/-- R10: the entry to BROKEN. Every station is SILENT before the first departure is handed on (R91, R141; log 30). -/
def breakRing (s : State) : State :=
  let up := stationNumbers.filter fun n =>
    decide ((station s n).state = .present) || decide ((station s n).state = .joining)
  let gone := stationNumbers.filter fun n => present s n
  let t := silenceAll up (s.setRing { s.ring with broken := true })
  let t := up.foldl (fun u n => noticePresence n u) t
  let t := gone.foldl (fun u n => depart n u) t
  raise .ring 1 0 t

/-- The consecutive-failure count has reached 32 while the ring is UP (R10). -/
def breakIfDue (s : State) : State :=
  if s.ring.failures = Config.breakCount ∧ s.ring.broken = false then breakRing s else s

/-- The outstanding frame has failed (R6): its cell misses, and every source is silence for its formation (R121). -/
def failFrame (f : Flight) (s : State) : State :=
  let t := s.setRing { s.ring with flight := none, failures := bump Config.breakCount s.ring.failures }
  let t := match f.cell with
    | none => t
    | some c => cellMiss c t
  formFor f.cadence silentSlots (breakIfDue (probeOver f.cell t))

/-- The failure of the outstanding frame, if one is out (R6, log 7). -/
def failOutstanding (s : State) : State :=
  match s.ring.flight with
  | none => s
  | some f => failFrame f s

end Sys2Proof.Machine
end

