-- ==== Sys2Proof/Machine/Supply.lean ====
section
/-! DEFINITION. Machine/Supply.lean: the supply and cadence unit (chapter 11): the three restart kinds, the supply events,
the reset line, and the second of table time. -/

namespace Sys2Proof.Machine

/-! ### Clearing the main domain (R208, R209) -/

/-- Every main-domain block takes its restart values; no start cause and no cell yet (log 22). -/
def clearMain (backup : BackupCond) (s : State) : State :=
  { s with ring := Ring.cleared, sched := Sched.cleared, stn := StationUnit.cleared, guardLock := false, ctx := none,
           queue := [], chan := Channels.cleared, mix := Mix.cleared, share := Share.cleared, panel := Panel.cleared,
           minutes := Minutes.cleared, orders := OrderUnit.cleared, sup := SupplyUnit.cleared backup }

/-- Steps 1 and 2 of a restart (R208): the restart values, the start causes, the backup condition as it reads now (R205),
and the two cells of R28. -/
def startMain (causes : List StartCause) (reading : BackupCond) (s : State) : State :=
  let t := clearMain reading s
  let t := t.setOrders { t.orders with starts := causes }
  let t := t.setSched { t.sched with class3 := recallCells }
  (t.setSupply .run).setAwaited none

/-- A supply return and a warm reset keep the hold domain and run reconciliation (R208, step 3). -/
def restartKept (causes : List StartCause) (reading : BackupCond) (s : State) : State :=
  reconcile (startMain causes reading s)

/-- A cold start sets the hold domain to its cold-start values and runs no reconciliation (R208). -/
def restartCold (causes : List StartCause) (reading : BackupCond) (s : State) : State :=
  startMain causes reading (s.setHold Hold.cold)

/-! ### Supply events (R204, R205) -/

/-- R204: MAINS LOSS. The backup condition goes on being followed from outside (log 22). -/
def mainsLost (s : State) : State :=
  match s.supply with
  | .run =>
      let t := (clearMain s.sup.backup s).setAwaited none
      if s.hold.backupEnable ∧ s.sup.backup = .ok then t.setSupply .hold
      else (t.setSupply .off).setHold Hold.cold
  | .hold => s
  | .off => s

/-- R204, R209: MAINS RETURN. With the reset line low the main domain stays in reset, and the restart waits for the line; the
backup condition meanwhile is what the monitor read at the return (log 51). -/
def mainsReturned (reading : BackupCond) (s : State) : State :=
  match s.supply with
  | .run => s
  | .hold =>
      if s.nrstLow then ((clearMain reading s).setSupply .run).setAwaited (some .supplyReturn)
      else restartKept [.supplyReturn] reading s
  | .off =>
      if s.nrstLow then
        (((clearMain reading s).setSupply .run).setAwaited (some .coldStart)).setHold Hold.cold
      else restartCold [.coldStart] reading s

/-- R204, R205, R209: BACKUP LOW. It ends a hold at once. -/
def backupFell (s : State) : State :=
  match s.supply with
  | .run =>
      let t := s.setSup { s.sup with backup := .low }
      if s.nrstLow then t else raise .backup 1 0 t
  | .hold => (s.setSupply .off).setHold Hold.cold
  | .off => s

/-- R204, R205, R209: BACKUP OK. -/
def backupRose (s : State) : State :=
  match s.supply with
  | .run =>
      let t := s.setSup { s.sup with backup := .ok }
      if s.nrstLow then t else raise .backup 2 0 t
  | .hold => s
  | .off => s

/-! ### The reset line (R209, R210) -/

/-- NRST goes low. In RUN the main domain takes its restart values, but keeps a pending restart and goes on following the
backup condition; in HOLD and OFF the line is no event. -/
def lineLow (s : State) : State :=
  let t := s.setNrst true
  match s.supply with
  | .run =>
      if s.nrstLow then t
      else
        let u := clearMain s.sup.backup t
        u.setSup { u.sup with restart := s.sup.restart }
  | .hold => t
  | .off => t

/-- The start causes of a warm reset at the release: RESTART ORDER too when a restart was pending (R210). -/
def releaseCauses (s : State) : List StartCause :=
  if s.sup.restart = .absent then [.resetLine] else [.resetLine, .restartOrder]

/-- NRST goes high: the restart that waited for it, and otherwise a warm reset. -/
def lineReleased (reading : BackupCond) (s : State) : State :=
  if s.nrstLow then
    let t := s.setNrst false
    match s.supply with
    | .run =>
        match s.awaited with
        | some .coldStart => restartCold [.coldStart, .resetLine] reading t
        | some .supplyReturn => restartKept [.supplyReturn, .resetLine] reading t
        | none => restartKept (releaseCauses s) reading t
    | .hold => t
    | .off => t
  else s

/-- R210: the pending restart is carried out, once the frame of its ANSWER has returned or failed. -/
def restartDue (reading : BackupCond) (s : State) : State :=
  if s.sup.restart = .ready then restartKept [.restartOrder] reading s else s

/-! ### Table time (R29, R45, R55, R109) -/

/-- One second of table time. -/
def countSecond (s : State) : State := s.setHold { s.hold with tableTime := bump Config.maxTime s.hold.tableTime }

/-- What the main domain does at an increment: end and start detection, the warning, the speak timers (log 31). -/
def atIncrement (s : State) : State := tickTimers (checkWarning (startDetection (endDetection s)))

/-- One increment. Table time runs in RUN, with the line low too, and in HOLD; it stops in OFF. -/
def tick (s : State) : State :=
  match s.supply with
  | .run => if s.nrstLow then countSecond s else settle (atIncrement (countSecond s))
  | .hold => countSecond s
  | .off => s

end Sys2Proof.Machine
end

