-- ==== Sys2Proof/Machine/Events.lean ====
section
/-! DEFINITION. Machine/Events.lean: the meanings of the twenty commands that are events of the ring, the time base, the
monitors and the pins. An event that does not occur in a state changes nothing (log 38). -/

namespace Sys2Proof.Machine

/-- What a command of the main domain does: nothing with the main domain unpowered or in reset (R204, R209). -/
def inMain (f : State → State) (s : State) : State := if mainRunning s then settle (f s) else s

/-- FRAME_EMIT (R2 to R5). A frame still out has failed by the time the next one is emitted (R6, log 7). -/
def execFrameEmit (s : State) : Host.Outcome State Fault Refusal :=
  .next (inMain (fun t => emitFrame (failOutstanding t)) s)

/-- FRAME_RETURN (R6, R7): a frame that is late or carries another number is discarded unexamined. -/
def execFrameReturn (number : Nat) (lane : List Byte) (slots : Slots) (s : State) :
    Host.Outcome State Fault Refusal :=
  .next (inMain (fun t =>
    match t.ring.flight with
    | none => t
    | some f => if f.number = number then returnFrame f lane slots t else t) s)

/-- FRAME_FAIL (R6, R9, R10). -/
def execFrameFail (s : State) : Host.Outcome State Fault Refusal := .next (inMain failOutstanding s)

/-- PROBE_ROUND (R12, R15): an expiry of the probe timer. -/
def execProbeRound (s : State) : Host.Outcome State Fault Refusal := .next (inMain probeRound s)

/-- R20: 100 ms have passed since the halt time; a held RESUME is offered. -/
def haltInterval (n : Nat) (s : State) : State :=
  let r := station s n
  if r.state = .halted ∧ r.haltOver = false then
    let t := setStation n { r with haltOver := true, heldResume := false } s
    if r.heldResume then offer3 (.resume n 0) t else t
  else s

/-- HALT_INTERVAL_EXPIRY (R20). -/
def execHaltIntervalExpiry (seat : Nat) (s : State) : Host.Outcome State Fault Refusal :=
  .next (inMain (haltInterval seat) s)

/-- GRACE_EXPIRY (R143): the share ends with reason GRACE. -/
def execGraceExpiry (s : State) : Host.Outcome State Fault Refusal :=
  .next (inMain (fun t => if t.share.grace.isSome then endShare .grace t else t) s)

/-- TABLE_TIME_TICK (R29, R45, R55, R109). -/
def execTableTimeTick (s : State) : Host.Outcome State Fault Refusal := .next (tick s)

/-- SPEAK_LIMIT_EXPIRY (R111). -/
def execSpeakLimitExpiry (seat : Nat) (s : State) : Host.Outcome State Fault Refusal :=
  .next (inMain (speakLimitReached seat) s)

/-- R154: the flash ends and the computed lamp is to be sent again. -/
def flashOver (n : Nat) (s : State) : State :=
  if (panelOf s n).flash then setPanelOf n { panelOf s n with flash := false, lampDirty := true } s else s

/-- FLASH_EXPIRY (R154). -/
def execFlashExpiry (seat : Nat) (s : State) : Host.Outcome State Fault Refusal := .next (inMain (flashOver seat) s)

/-- LIST_REFRESH_EXPIRY (R157): the SPEAKERS lists are marked, and the timer goes on. -/
def execListRefreshExpiry (s : State) : Host.Outcome State Fault Refusal :=
  .next (inMain (fun t => if t.panel.refresh then markLists [.speakers] t else t) s)

/-- R207: the cadence request timer stops, and the cadence is tested again. -/
def cadenceTimerOver (s : State) : State :=
  if s.sup.timer then retestCadence (s.setSup { s.sup with timer := false }) else s

/-- CADENCE_TIMER_EXPIRY (R207). -/
def execCadenceTimerExpiry (s : State) : Host.Outcome State Fault Refusal := .next (inMain cadenceTimerOver s)

/-- EXTERNAL_PRESENT (R130, R131): nothing changes but the presence. -/
def execExternalPresent (s : State) : Host.Outcome State Fault Refusal :=
  .next (inMain (fun t => t.setMix { t.mix with present := true }) s)

/-- EXTERNAL_LOSS (R131). -/
def execExternalLoss (s : State) : Host.Outcome State Fault Refusal := .next (inMain externalLost s)

/-- MAINS_LOSS (R204). -/
def execMainsLoss (s : State) : Host.Outcome State Fault Refusal := .next (mainsLost s)

/-- MAINS_RETURN (R204, R208, R209), with the reading of the backup cell (log 2). -/
def execMainsReturn (reading : BackupCond) (s : State) : Host.Outcome State Fault Refusal :=
  .next (settle (mainsReturned reading s))

/-- BACKUP_LOW (R204, R205). -/
def execBackupLow (s : State) : Host.Outcome State Fault Refusal := .next (backupFell s)

/-- BACKUP_OK (R204, R205). -/
def execBackupOk (s : State) : Host.Outcome State Fault Refusal := .next (backupRose s)

/-- RESET_LINE_LOW (R209). -/
def execResetLineLow (s : State) : Host.Outcome State Fault Refusal := .next (lineLow s)

/-- RESET_LINE_RELEASE (R209), with the reading of the backup cell (log 2). -/
def execResetLineRelease (reading : BackupCond) (s : State) : Host.Outcome State Fault Refusal :=
  .next (settle (lineReleased reading s))

/-- RESTART_EXECUTE (R210), with the reading of the backup cell (log 2). -/
def execRestartExecute (reading : BackupCond) (s : State) : Host.Outcome State Fault Refusal :=
  .next (inMain (restartDue reading) s)

end Sys2Proof.Machine
end

