-- ==== Sys2Proof/Machine/StationOrders.lean ====
section
/-! DEFINITION. Machine/StationOrders.lean: the orders of the station unit, 0x10 to 0x16 and 0x94 (sections 1.8 to
1.10). -/

namespace Sys2Proof.Machine

/-- A station number (R11). -/
def isStation (n : Nat) : Bool := decide (1 ≤ n) && decide (n ≤ 83)

/-- READ STATION's result: 19 bytes (R201). An absent field is sent as 0 (log 47). -/
def stationBytes (n : Nat) (r : Station) : List Byte :=
  let presence := r.identity.isSome.toNat + 2 * r.caps.isSome.toNat + 4 * r.echo.isSome.toNat +
    8 * r.haltTime.isSome.toNat
  [byte n, byte (stationKind n), byte r.state.code, byte r.missed, flagByte r.call, byte presence] ++
  bytes6 (r.identity.getD 0).toNat ++ [(r.caps.map Caps.byte).getD 0, (r.echo.map EchoStatus.byte).getD 0] ++
  bytes4 (r.haltTime.getD 0).toNat ++ [flagByte r.heldResume]

/-- R25. -/
def readStationOrder (n : Nat) (s : State) : Reply :=
  if isStation n then done (stationBytes n (station s n)) s else refuse .range s

def execReadStation (h : OrderHead) (number : Nat) (s : State) : Host.Outcome State Fault Refusal :=
  .next (runOrder (.readStation h number) h 0x10 (readStationOrder number) s)

/-- R24: the record is forgotten; the lamp of a seat whose call this clears is marked (R153, log 24). -/
def forgetRecord (n : Nat) (s : State) : State :=
  let r := station s n
  let t := setStation n Station.vacant s
  let t := if r.call then markLamp n t else t
  if r.state = .silent then depart n t else t

/-- R24. -/
def forgetOrder (n : Nat) (s : State) : Reply :=
  if isStation n then
    match (station s n).state with
    | .vacant => done [] (forgetRecord n s)
    | .silent => done [] (forgetRecord n s)
    | .joining => refuse .state s
    | .present => refuse .state s
    | .halted => refuse .state s
    | .bypassed => refuse .state s
  else refuse .range s

def execForget (h : OrderHead) (number : Nat) (s : State) : Host.Outcome State Fault Refusal :=
  .next (runOrder (.forget h number) h 0x11 (forgetOrder number) s)

/-- R19: the seat is halted. The halt time is what the millisecond timer holds, a free value (log 5). -/
def haltStation (n : Nat) (s : State) : State :=
  let r := station s n
  let t := offer3 (.halt n 0) s
  let t := setStation n { r with state := .halted, haltTime := some (Config.haltInstant s.freeCount),
                                 haltOver := false, heldResume := false } (t.setFree (s.freeCount + 1))
  depart n t

/-- R19. -/
def haltSeatOrder (n : Nat) (s : State) : Reply :=
  if isSeat n then
    match (station s n).state with
    | .present => done [] (haltStation n s)
    | .halted => done [] s
    | .vacant => refuse .absent s
    | .joining => refuse .absent s
    | .silent => refuse .absent s
    | .bypassed => refuse .absent s
  else refuse .range s

def execHaltSeat (h : OrderHead) (number : Nat) (s : State) : Host.Outcome State Fault Refusal :=
  .next (runOrder (.haltSeat h number) h 0x12 (haltSeatOrder number) s)

/-- R20: a RESUME is offered at once after the halt interval, and held until then. -/
def resumeStation (n : Nat) (s : State) : State :=
  let r := station s n
  if r.heldResume || resumeOut s n then s
  else if r.haltOver then offer3 (.resume n 0) s
  else setStation n { r with heldResume := true } s

/-- R20. -/
def resumeSeatOrder (n : Nat) (s : State) : Reply :=
  if isSeat n then
    match (station s n).state with
    | .halted => done [] (resumeStation n s)
    | .vacant => refuse .state s
    | .joining => refuse .state s
    | .present => refuse .state s
    | .silent => refuse .state s
    | .bypassed => refuse .state s
  else refuse .range s

def execResumeSeat (h : OrderHead) (number : Nat) (s : State) : Host.Outcome State Fault Refusal :=
  .next (runOrder (.resumeSeat h number) h 0x13 (resumeSeatOrder number) s)

/-- R21. -/
def bypassStation (n : Nat) (s : State) : State :=
  depart n (setStation n { station s n with state := .bypassed } (offer3 (.bypass n 0) s))

/-- R21. -/
def bypassOrder (n : Nat) (s : State) : Reply :=
  if isStation n then
    if (station s n).state = .present then done [] (bypassStation n s) else refuse .absent s
  else refuse .range s

def execBypass (h : OrderHead) (number : Nat) (s : State) : Host.Outcome State Fault Refusal :=
  .next (runOrder (.bypass h number) h 0x14 (bypassOrder number) s)

/-- R22. -/
def unbypassStation (n : Nat) (s : State) : State :=
  let r := station s n
  setStation n { r with state := .joining, missed := 0 } (offer3 (.unbypass n r.identity 0) s)

/-- R22. -/
def unbypassOrder (n : Nat) (s : State) : Reply :=
  if isStation n then
    if (station s n).state = .bypassed then done [] (unbypassStation n s) else refuse .state s
  else refuse .range s

def execUnbypass (h : OrderHead) (number : Nat) (s : State) : Host.Outcome State Fault Refusal :=
  .next (runOrder (.unbypass h number) h 0x15 (unbypassOrder number) s)

/-- R23: CLEAR CALL. -/
def clearCallOrder (n : Nat) (s : State) : Reply :=
  if isSeat n then
    if (station s n).call then done [] (markLamp n (setStation n { station s n with call := false } s))
    else done [] s
  else refuse .range s

def execClearCall (h : OrderHead) (number : Nat) (s : State) : Host.Outcome State Fault Refusal :=
  .next (runOrder (.clearCall h number) h 0x16 (clearCallOrder number) s)

/-- R26: all fields are replaced, the lock follows keep-open, and the readers at the load act: the mix engine (R134) and
the cadence (R206). -/
def takeRingPlan (p : RingPlan) (s : State) : State :=
  retestCadence (selectClock p.clockSource (s.setStn { s.stn with plan := p, locked := !p.keepOpen }))

/-- R26: the fields before the lock. -/
def loadRingPlanOrder (f : RawRingPlan) (s : State) : Reply :=
  match ringPlanOf f with
  | none => refuse .range s
  | some p => if s.stn.locked then refuse .state s else done [] (takeRingPlan p s)

def execLoadRingPlan (h : OrderHead) (fields : RawRingPlan) (s : State) : Host.Outcome State Fault Refusal :=
  .next (runOrder (.loadRingPlan h fields) h 0x94 (loadRingPlanOrder fields) s)

end Sys2Proof.Machine
end

