-- ==== Sys2Proof/Machine/CalendarOrders.lean ====
section
/-! DEFINITION. Machine/CalendarOrders.lean: the orders of the calendar and booking unit, 0x30 to 0x39 (chapter 2). -/

namespace Sys2Proof.Machine

/-- R44: the guard check, before any other check of a guarded order. A mismatch sets guard lock and raises GUARD notice with
the order code. -/
def guarded (code : Nat) (guard : BitVec 32) (go : State → Reply) (s : State) : Reply :=
  if s.guardLock then refuse .guardLock s
  else if s.hold.guardSet ∧ guard ≠ s.hold.guard then
    refuse .guardLock (raise .guardFault 1 code (s.setGuardLock true))
  else go s

/-- R30: the clock is set, and reconciliation runs once the order has been answered. -/
def takeClock (time : Nat) (s : State) : Reply :=
  { state := s.setHold { s.hold with tableTime := time, clockValid := true }, status := .done, follow := .reconcile }

/-- R30. -/
def setClockOrder (time : Nat) (guard : BitVec 32) (s : State) : Reply :=
  if s.hold.clockValid then
    guarded 0x30 guard (fun t => if (liveEntry t).isSome then refuse .state t else takeClock time t) s
  else takeClock time s

def execSetClock (h : OrderHead) (time : Nat) (guard : BitVec 32) (s : State) : Host.Outcome State Fault Refusal :=
  .next (runOrder (.setClock h time guard) h 0x30 (setClockOrder time guard) s)

/-- R31. -/
def readClockOrder (s : State) : Reply := done (bytes4 s.hold.tableTime ++ [flagByte s.hold.clockValid]) s

def execReadClock (h : OrderHead) (s : State) : Host.Outcome State Fault Refusal :=
  .next (runOrder (.readClock h) h 0x31 readClockOrder s)

/-- R36: the new entry, PENDING. -/
def newBooking (s : State) (f : RawBooking) (p : Profile) : Booking :=
  { id := newId s, startAt := f.startAt, endAt := f.endAt, organiser := f.organiser, walkIn := false, plan := f.plan,
    profile := p, live := false, grade := p.grade, used := 0 }

/-- R36: a BOOK that is taken. -/
def takeBooking (f : RawBooking) (p : Profile) (s : State) : State :=
  let b := newBooking s f p
  s.setHold { s.hold with bookings := placeBooking b s.hold.bookings, nextId := nextIdAfter b.id }

/-- R35: the checks in order. -/
def bookOrder (f : RawBooking) (s : State) : Reply :=
  if s.hold.clockValid = false then refuse .state s
  else
    match bookingFields s.hold.tableTime f with
    | none => refuse .range s
    | some p =>
        if f.startAt < s.hold.horizon then refuse .frozen s
        else if Config.maxBookings ≤ s.hold.bookings.length then refuse .full s
        else
          match conflictEntry s f.startAt f.endAt none with
          | some e => refuseOverlap e.id s
          | none => done (bytes2 (newId s)) (takeBooking f p s)

def execBook (h : OrderHead) (fields : RawBooking) (s : State) : Host.Outcome State Fault Refusal :=
  .next (runOrder (.book h fields) h 0x32 (bookOrder fields) s)

/-- The entry that holds an id. -/
def bookingOf (s : State) (id : Nat) : Option Booking := s.hold.bookings.find? fun b => b.id == id

/-- The table without the entry that holds an id. -/
def withoutBooking (s : State) (id : Nat) : List Booking := s.hold.bookings.filter fun b => b.id != id

/-- R37: an ALTER that is taken. -/
def takeAlter (b : Booking) (f : RawBooking) (p : Profile) (s : State) : State :=
  setBookings (placeBooking { b with startAt := f.startAt, endAt := f.endAt, organiser := f.organiser, plan := f.plan,
                                     profile := p, grade := p.grade, used := 0 } (withoutBooking s b.id)) s

/-- R37: the checks in order. -/
def alterOrder (id : Nat) (f : RawBooking) (s : State) : Reply :=
  if s.hold.clockValid = false then refuse .state s
  else
    match bookingOf s id with
    | none => refuse .range s
    | some b =>
        if b.live then refuse .state s
        else
          match bookingFields s.hold.tableTime f with
          | none => refuse .range s
          | some p =>
              if b.startAt < s.hold.horizon ∨ f.startAt < s.hold.horizon then refuse .frozen s
              else
                match conflictEntry s f.startAt f.endAt (some id) with
                | some e => refuseOverlap e.id s
                | none => done (bytes2 id) (takeAlter b f p s)

def execAlter (h : OrderHead) (id : Nat) (fields : RawBooking) (s : State) : Host.Outcome State Fault Refusal :=
  .next (runOrder (.alter h id fields) h 0x33 (alterOrder id fields) s)

/-- R38. -/
def cancelOrder (id : Nat) (s : State) : Reply :=
  match bookingOf s id with
  | none => refuse .range s
  | some b =>
      if b.live then refuse .state s
      else if b.startAt < s.hold.horizon then refuse .frozen s
      else done [] (setBookings (withoutBooking s id) s)

def execCancel (h : OrderHead) (id : Nat) (s : State) : Host.Outcome State Fault Refusal :=
  .next (runOrder (.cancel h id) h 0x34 (cancelOrder id) s)

/-- READ BOOKING's result: 33 bytes (R201). -/
def Booking.bytes (b : Booking) : List Byte :=
  bytes2 b.id ++ bytes4 b.startAt ++ bytes4 b.endAt ++ bytes2 b.organiser ++ [flagByte b.walkIn, byte b.plan] ++
  b.profile.bytes ++ [flagByte b.live, byte b.grade, byte b.used]

/-- R39: positions count from 1. -/
def readBookingOrder (position : Nat) (s : State) : Reply :=
  match position with
  | 0 => refuse .range s
  | i + 1 =>
      match s.hold.bookings[i]? with
      | none => refuse .range s
      | some b => done b.bytes s

def execReadBooking (h : OrderHead) (position : Nat) (s : State) : Host.Outcome State Fault Refusal :=
  .next (runOrder (.readBooking h position) h 0x35 (readBookingOrder position) s)

/-- The freeze horizon takes a value (R40, R41). -/
def takeHorizon (time : Nat) (s : State) : State := s.setHold { s.hold with horizon := time }

/-- R40. -/
def setHorizonOrder (time : Nat) (s : State) : Reply :=
  if time < s.hold.horizon then refuse .frozen s else done [] (takeHorizon time s)

def execSetHorizon (h : OrderHead) (time : Nat) (s : State) : Host.Outcome State Fault Refusal :=
  .next (runOrder (.setHorizon h time) h 0x36 (setHorizonOrder time) s)

/-- R41. -/
def lowerHorizonOrder (time : Nat) (guard : BitVec 32) (s : State) : Reply :=
  guarded 0x37 guard (fun t => done [] (takeHorizon time t)) s

def execLowerHorizon (h : OrderHead) (time : Nat) (guard : BitVec 32) (s : State) :
    Host.Outcome State Fault Refusal :=
  .next (runOrder (.lowerHorizon h time guard) h 0x37 (lowerHorizonOrder time guard) s)

/-- R42: every PENDING entry goes, and the answer counts them. -/
def takeErase (s : State) : Reply :=
  let kept := s.hold.bookings.filter Booking.live
  done [byte (s.hold.bookings.length - kept.length)] (setBookings kept s)

/-- R42. -/
def eraseBookingsOrder (guard : BitVec 32) (s : State) : Reply := guarded 0x38 guard takeErase s

def execEraseBookings (h : OrderHead) (guard : BitVec 32) (s : State) : Host.Outcome State Fault Refusal :=
  .next (runOrder (.eraseBookings h guard) h 0x38 (eraseBookingsOrder guard) s)

/-- R43. -/
def setGuardOrder (value : BitVec 32) (s : State) : Reply :=
  if s.hold.guardSet then refuse .state s
  else done [] (s.setHold { s.hold with guard := value, guardSet := true })

def execSetGuard (h : OrderHead) (value : BitVec 32) (s : State) : Host.Outcome State Fault Refusal :=
  .next (runOrder (.setGuard h value) h 0x39 (setGuardOrder value) s)

end Sys2Proof.Machine
end

