-- ==== Sys2Proof/Machine/SessionOrders.lean ====
section
/-! DEFINITION. Machine/SessionOrders.lean: the orders of the session controller, 0x20 to 0x23 and 0x40 to 0x46
(chapter 3). -/

namespace Sys2Proof.Machine

/-! ### Seat plans and the walk-in profile (R65, R66, R70) -/

/-- Whether the plan is the active plan of a LIVE session (R65, R66). -/
def activePlan (s : State) (p : Nat) : Bool :=
  match liveCtx s with
  | none => false
  | some c => c.plan == p

/-- The plan is replaced whole. -/
def storePlan (p : Nat) (x : Plan) (s : State) : State :=
  s.setHold { s.hold with plans := s.hold.plans.setIfInBounds p x }

/-- R65. -/
def loadPlanOrder (p : Nat) (enabled : SeatSet) (c1 c2 : Nat) (right : SeatSet) (s : State) : Reply :=
  if 7 < p then refuse .range s
  else
    match chairsOf enabled c1 c2 with
    | none => refuse .range s
    | some chairs =>
        if activePlan s p then refuse .state s
        else done [] (storePlan p { enabled := enabled, chairs := chairs, shareRight := right } s)

def execLoadPlan (h : OrderHead) (plan : Nat) (enabled : SeatSet) (chair1 chair2 : Nat) (shareRight : SeatSet)
    (s : State) : Host.Outcome State Fault Refusal :=
  .next (runOrder (.loadPlan h plan enabled chair1 chair2 shareRight) h 0x20
    (loadPlanOrder plan enabled chair1 chair2 shareRight) s)

/-- READ PLAN's result: 23 bytes (R201). The chairs are those kept, so a plan loaded with (0, n) reads (n, 0)
(log 45). -/
def planBytes (s : State) (p : Nat) : List Byte :=
  let x := planAt s p
  seatSetBytes x.enabled ++ [byte (x.chairs.getD 0 0), byte (x.chairs.getD 1 0)] ++ seatSetBytes x.shareRight ++
  [flagByte (activePlan s p)]

/-- R66. -/
def readPlanOrder (p : Nat) (s : State) : Reply := if 7 < p then refuse .range s else done (planBytes s p) s

def execReadPlan (h : OrderHead) (plan : Nat) (s : State) : Host.Outcome State Fault Refusal :=
  .next (runOrder (.readPlan h plan) h 0x21 (readPlanOrder plan) s)

/-- R70. -/
def loadWalkInOrder (f : RawWalkIn) (s : State) : Reply :=
  match walkInOf f with
  | none => refuse .range s
  | some w => done [] (s.setHold { s.hold with walkIn := w })

def execLoadWalkIn (h : OrderHead) (fields : RawWalkIn) (s : State) : Host.Outcome State Fault Refusal :=
  .next (runOrder (.loadWalkIn h fields) h 0x22 (loadWalkInOrder fields) s)

/-- READ WALK-IN's result: the fields of LOAD WALK-IN, 20 bytes (R201). -/
def WalkIn.bytes (w : WalkIn) : List Byte :=
  [flagByte w.allowed, byte w.plan] ++ w.profile.bytes ++ [byte w.length, byte w.gap]

/-- R70. -/
def readWalkInOrder (s : State) : Reply := done s.hold.walkIn.bytes s

def execReadWalkIn (h : OrderHead) (s : State) : Host.Outcome State Fault Refusal :=
  .next (runOrder (.readWalkIn h) h 0x23 readWalkInOrder s)

/-! ### Start, end and extension (R56 to R63) -/

/-- R62, step 2: the calendar unit's answer becomes the order's. -/
def startNowReply (r : Created × State) : Reply :=
  match r with
  | (.done id, t) => done (bytes2 id) t
  | (.refused .overlap id, t) => refuseOverlap id t
  | (.refused status _, t) => refuse status t

/-- R63: the checks in order. -/
def startNowOrder (s : State) : Reply :=
  if s.ctx.isSome then refuse .state s
  else if s.hold.clockValid = false then refuse .state s
  else if Config.maxBookings ≤ s.hold.bookings.length then refuse .full s
  else if windowWide s then startNowReply (startWalkIn .order s)
  else refuseOverlap (((firstPending s).map Booking.id).getD 0) s

def execStartNow (h : OrderHead) (s : State) : Host.Outcome State Fault Refusal :=
  .next (runOrder (.startNow h) h 0x40 startNowOrder s)

/-- R59. -/
def endNowOrder (s : State) : Reply :=
  match liveCtx s with
  | none => refuse .noSession s
  | some c => done (bytes2 c.id) (endSession .order s)

def execEndNow (h : OrderHead) (s : State) : Host.Outcome State Fault Refusal :=
  .next (runOrder (.endNow h) h 0x41 endNowOrder s)

/-- R56: how each outcome of an extension is answered. -/
def extendReply (r : ExtendResult × State) : Reply :=
  match r with
  | (.noSession, t) => refuse .noSession t
  | (.used, t) => refuse .state t
  | (.overlap id, t) => refuseOverlap id t
  | (.logFull, t) => refuse .logFull t
  | (.taken newEnd used, t) => done (bytes4 newEnd ++ [byte used]) t

/-- R56. -/
def extendOrder (s : State) : Reply := extendReply (requestExtension .order s)

def execExtend (h : OrderHead) (s : State) : Host.Outcome State Fault Refusal :=
  .next (runOrder (.extend h) h 0x42 extendOrder s)

/-! ### Grade (R64) -/

/-- R64: the raise, its record admitted first, and what the other owners do at it (R144, R156). -/
def takeGrade (c : Session) (g : Nat) (s : State) : State :=
  let t := admitRecord { kind := .grade, reason := .order, detail := some (.grade c.id g) } s
  let t := updateLive (fun b => { b with grade := g }) (t.setCtx (some { c with grade := g }))
  markLists [.speakers, .queue, .share] (gradeFarFlag g t)

/-- R64. -/
def raiseGradeOrder (g : Nat) (s : State) : Reply :=
  match liveCtx s with
  | none => refuse .noSession s
  | some c =>
      if 3 < g then refuse .range s
      else if g ≤ c.grade then refuse .state s
      else if actionRoom s then done [] (takeGrade c g s)
      else refuse .logFull s

def execRaiseGrade (h : OrderHead) (grade : Nat) (s : State) : Host.Outcome State Fault Refusal :=
  .next (runOrder (.raiseGrade h grade) h 0x43 (raiseGradeOrder grade) s)

/-! ### Adjusting the running session (R69, R107) -/

/-- The profile copy with one field changed; none for a field outside the table or not adjustable, and for a value outside
the field's range. -/
def adjustProfile (p : Profile) (field value : Nat) : Option Profile :=
  match field with
  | 1 => (floorModeOf value).map fun x => { p with floorMode := x }
  | 2 => if openLimitOk value then some { p with openLimit := value } else none
  | 3 => if speakLimitOk value then some { p with speakLimit := value } else none
  | 4 => if warnLeadOk value then some { p with warnLead := value } else none
  | 5 => (limitActionOf value).map fun x => { p with limitAction := x }
  | 6 => (fullActionOf value).map fun x => { p with fullAction := x }
  | 7 => (priorityModeOf value).map fun x => { p with priorityMode := x }
  | 8 => if duckGainOk value then some { p with duckGain := value } else none
  | 11 => (sharePolicyOf value).map fun x => { p with sharePolicy := x }
  | 12 => if shareGraceOk value then some { p with shareGrace := value } else none
  | 13 => (flagOf value).map fun x => { p with openMute := x }
  | 14 => if endLeadOk value then some { p with endLead := value } else none
  | 15 => if extStepOk value then some { p with extStep := value } else none
  | _ => none

/-- R69: the warning time with a new lead. A WARNED session stays WARNED. -/
def newWarning (c : Session) (lead : Nat) (s : State) : State :=
  let (warnAt, t) := drawTime ((c.endAt : Int) - (lead * 60 : Nat)) s
  match t.ctx with
  | none => t
  | some d => t.setCtx (some { d with warnAt := warnAt })

/-- The consequence of a change (R69, R107); auto-open acts in its own modes alone (R101). A change of full action with
QUEUE in force is no occasion (R69), nor is a lowered open limit that closes nothing (R107); R101 lists both (log 40). -/
def afterAdjust (c : Session) (p : Profile) (field : Nat) (s : State) : State :=
  match field with
  | 1 => autoOpen s
  | 2 => if c.profile.openLimit < p.openLimit then autoOpen s else lowerTo p.openLimit 8 s
  | 6 => if p.floorMode = .queue then s else autoOpen s
  | 14 => newWarning c p.endLead s
  | _ => s

/-- R69. An equal value changes nothing. -/
def adjustSessionOrder (field value : Nat) (s : State) : Reply :=
  match liveCtx s with
  | none => refuse .noSession s
  | some c =>
      match adjustProfile c.profile field value with
      | none => refuse .range s
      | some p =>
          if p = c.profile then done [] s
          else done [] (afterAdjust c p field (s.setCtx (some { c with profile := p })))

def execAdjustSession (h : OrderHead) (field value : Nat) (s : State) : Host.Outcome State Fault Refusal :=
  .next (runOrder (.adjustSession h field value) h 0x44 (adjustSessionOrder field value) s)

/-! ### Plan switch and reading (R67, R71) -/

/-- R67: the PLAN record stands before those of the consequences. -/
def takeSwitch (c : Session) (p : Nat) (s : State) : State :=
  switchActivePlan p (admitRecord { kind := .plan, reason := .order, detail := some (.plan c.id p) } s)

/-- R67. -/
def switchPlanOrder (p : Nat) (s : State) : Reply :=
  match liveCtx s with
  | none => refuse .noSession s
  | some c =>
      if 7 < p then refuse .range s
      else if p = c.plan then done [] s
      else if actionRoom s then done [] (takeSwitch c p s)
      else refuse .logFull s

def execSwitchPlan (h : OrderHead) (plan : Nat) (s : State) : Host.Outcome State Fault Refusal :=
  .next (runOrder (.switchPlan h plan) h 0x45 (switchPlanOrder plan) s)

/-- READ SESSION's result: 36 bytes (R201). -/
def sessionBytes (s : State) (c : Session) : List Byte :=
  bytes2 c.id ++ [flagByte c.walkIn] ++ bytes2 c.organiser ++ [byte c.plan] ++ c.profile.bytes ++
  [byte c.grade, byte c.mode.code] ++ bytes4 c.endAt ++ bytes4 c.warnAt ++
  [byte c.phase.code, flagByte c.resumed, byte (((liveEntry s).map Booking.used).getD 0), byte s.chan.holders.length]

/-- R71. -/
def readSessionOrder (s : State) : Reply :=
  match liveCtx s with
  | none => refuse .noSession s
  | some c => done (sessionBytes s c) s

def execReadSession (h : OrderHead) (s : State) : Host.Outcome State Fault Refusal :=
  .next (runOrder (.readSession h) h 0x46 readSessionOrder s)

end Sys2Proof.Machine
end

