-- ==== Sys2Proof/Machine/FloorOrders.lean ====
section
/-! DEFINITION. Machine/FloorOrders.lean: the orders of the channel allocator and the floor controller, 0x50 to 0x57
(chapters 4 and 5). -/

namespace Sys2Proof.Machine

/-! ### Channels (R104 to R106, R117) -/

/-- The channel a seat holds after an open, as the answer of GRANT carries it. -/
def channelByte (s : State) (n : Nat) : Byte := byte ((channelOf s n).getD 0)

/-- The answer to a GRANT: an open that was made, or the reserve's refusal (R104, check 7). -/
def grantReply (n : Nat) (r : Bool × State) : Reply :=
  if r.1 then done [channelByte r.2 n] r.2 else refuse .logFull r.2

/-- R104: the checks in order. -/
def grantOrder (n force : Nat) (s : State) : Reply :=
  match liveCtx s with
  | none => refuse .noSession s
  | some c =>
      if !isSeat n || decide (1 < force) then refuse .range s
      else if !present s n then refuse .absent s
      else if !enabledSeat s n || micOpen s n then refuse .state s
      else if chairSeat s n then grantReply n (tryOpen n .chair .order s)
      else if priorityHeld s .close then refuse .state s
      else if delegateCount s < c.profile.openLimit then grantReply n (tryOpen n .delegate .order s)
      else if force = 0 then refuse .full s
      else grantReply n (replaceMic n .order .order s)

def execGrant (h : OrderHead) (seat force : Nat) (s : State) : Host.Outcome State Fault Refusal :=
  .next (runOrder (.grant h seat force) h 0x50 (grantOrder seat force) s)

/-- CLOSE's result: the channel and the duration (R105, R201). -/
def closeBytes (s : State) (k : Nat) (e : Channel) : List Byte :=
  [byte k] ++ bytes4 (s.hold.tableTime - e.openedAt)

/-- R105. -/
def closeOrder (n : Nat) (s : State) : Reply :=
  if !sessionLive s then refuse .noSession s
  else if !isSeat n then refuse .range s
  else
    match channelOf s n with
    | none => refuse .state s
    | some k =>
        match channelAt s k with
        | none => refuse .state s
        | some e => done (closeBytes s k e) (closeMic n .order s)

def execClose (h : OrderHead) (seat : Nat) (s : State) : Host.Outcome State Fault Refusal :=
  .next (runOrder (.close h seat) h 0x51 (closeOrder seat) s)

/-- The seats that CLOSE ALL closes, oldest opened first (R106). -/
def closeAllSeats (s : State) (chairs : Bool) : List Nat :=
  ((s.chan.order.filterMap (channelAt s)).filter fun e => chairs || decide (e.category = .delegate)).map Channel.seat

/-- R106: the closes, and one occasion after the last. -/
def closeAllTake (chairs : Bool) (s : State) : Reply :=
  let seats := closeAllSeats s chairs
  let t := seats.foldl (fun u n => closeMicOnly n .order u) s
  done [byte seats.length] (if seats = [] then t else autoOpen t)

/-- R106. -/
def closeAllOrder (chairs : Nat) (s : State) : Reply :=
  if !sessionLive s then refuse .noSession s
  else
    match flagOf chairs with
    | none => refuse .range s
    | some b => closeAllTake b s

def execCloseAll (h : OrderHead) (chairs : Nat) (s : State) : Host.Outcome State Fault Refusal :=
  .next (runOrder (.closeAll h chairs) h 0x52 (closeAllOrder chairs) s)

/-- One entry of READ CHANNELS: 12 bytes (R201). The bytes of an absent speak timer are 0 (log 47). -/
def channelBytes : Option Channel → List Byte
  | none => List.replicate 12 0
  | some e =>
      let flags := e.mute.toNat + 2 * e.warned.toNat + 4 * e.suppressed.toNat + 8 * e.timer.isSome.toNat
      [byte e.seat, byte e.category.code, byte e.cause.code] ++ bytes4 e.openedAt ++ [byte flags] ++
      bytes2 ((e.timer.map SpeakTimer.remaining).getD 0) ++
      [byte ((e.timer.map SpeakTimer.lead).getD 0), byte ((e.timer.map fun t => t.action.code).getD 0)]

/-- READ CHANNELS' result: 109 bytes (R201). The holding set is sent in the order its seats joined, 0 last (log 46). -/
def channelsBytes (s : State) : List Byte :=
  ((List.range 8).map fun k => channelBytes (channelAt s k)).flatten ++
  [byte s.chan.order.length] ++ (List.range 8).map (fun i => byte (s.chan.order.getD i 0)) ++
  [byte s.chan.holders.length, byte (s.chan.holders.getD 0 0), byte (s.chan.holders.getD 1 0),
   byte (holdModeCode s.chan.holdMode)]

/-- R117: taken in every state. -/
def readChannelsOrder (s : State) : Reply := done (channelsBytes s) s

def execReadChannels (h : OrderHead) (s : State) : Host.Outcome State Fault Refusal :=
  .next (runOrder (.readChannels h) h 0x57 readChannelsOrder s)

/-! ### The request queue (R87 to R89) -/

/-- R87, check 3: a seat that may not join the queue. -/
def joinBarred (s : State) (n : Nat) : Bool :=
  !present s n || !enabledSeat s n || chairSeat s n || s.queue.contains n || micOpen s n

/-- R87: the insertion; the answer carries the length it makes, and the occasion for auto-open follows. -/
def insertTake (n position : Nat) (s : State) : Reply :=
  done [byte (s.queue.length + 1)] (autoOpen (joinQueue n position .order s))

/-- R87: the checks in order. -/
def queueInsertOrder (n position : Nat) (s : State) : Reply :=
  if !sessionLive s then refuse .noSession s
  else if !isSeat n then refuse .range s
  else if joinBarred s n then refuse .state s
  else if Config.maxQueue ≤ s.queue.length then refuse .full s
  else if position = 0 ∨ s.queue.length + 1 < position then refuse .range s
  else insertTake n position s

def execQueueInsert (h : OrderHead) (seat position : Nat) (s : State) : Host.Outcome State Fault Refusal :=
  .next (runOrder (.queueInsert h seat position) h 0x53 (queueInsertOrder seat position) s)

/-- R88: QUEUE REMOVE. -/
def queueRemoveOrder (n : Nat) (s : State) : Reply :=
  if !sessionLive s then refuse .noSession s
  else if !isSeat n then refuse .range s
  else if s.queue.contains n then done [] (withdraw n .order s)
  else refuse .state s

def execQueueRemove (h : OrderHead) (seat : Nat) (s : State) : Host.Outcome State Fault Refusal :=
  .next (runOrder (.queueRemove h seat) h 0x54 (queueRemoveOrder seat) s)

/-- R88: every queued seat is withdrawn, head first, with no occasion for auto-open. -/
def clearTake (s : State) : Reply :=
  done [byte s.queue.length] (s.queue.foldl (fun t n => withdrawOnly n .order t) s)

/-- R88: QUEUE CLEAR. -/
def queueClearOrder (s : State) : Reply := if sessionLive s then clearTake s else refuse .noSession s

def execQueueClear (h : OrderHead) (s : State) : Host.Outcome State Fault Refusal :=
  .next (runOrder (.queueClear h) h 0x55 queueClearOrder s)

/-- READ QUEUE's result: the length, and up to 16 seats from the position on (R89, R201). -/
def queueBytes (s : State) (position : Nat) : List Byte :=
  [byte s.queue.length] ++ ((s.queue.drop (position - 1)).take 16).map byte

/-- R89. -/
def readQueueOrder (position : Nat) (s : State) : Reply :=
  if !sessionLive s then refuse .noSession s
  else if position = 0 ∨ Config.maxQueue < position then refuse .range s
  else done (queueBytes s position) s

def execReadQueue (h : OrderHead) (position : Nat) (s : State) : Host.Outcome State Fault Refusal :=
  .next (runOrder (.readQueue h position) h 0x56 (readQueueOrder position) s)

end Sys2Proof.Machine
end

