-- ==== Sys2Proof/Machine/AudioOrders.lean ====
section
/-! DEFINITION. Machine/AudioOrders.lean: the orders of the mix engine and the share controller, 0x60, 0x61, 0x68 to 0x6A
and 0x97 (chapters 6 and 7). -/

namespace Sys2Proof.Machine

/-! ### The mix engine (R124, R129, R132) -/

/-- R124. -/
def setGainOrder (bus source code : Nat) (s : State) : Reply :=
  if 3 < bus ∨ 9 < source ∨ 40 < code then refuse .range s
  else done [] (s.setMix { s.mix with codes := s.mix.codes.setIfInBounds (bus * 10 + source) code })

def execSetGain (h : OrderHead) (bus source code : Nat) (s : State) : Host.Outcome State Fault Refusal :=
  .next (runOrder (.setGain h bus source code) h 0x60 (setGainOrder bus source code) s)

/-- READ MIX's result: 17 bytes (R201). -/
def mixBytes (s : State) (bus : Nat) : List Byte :=
  ((List.range 10).map fun k => byte (gainCode s bus k)) ++ bytes2 (clipCount s bus) ++
  [flagByte (gateOpen s bus), byte s.mix.selection.code, byte s.mix.inUse.code, flagByte s.mix.fault,
   flagByte s.mix.present]

/-- R129: the bus's clip count is then 0. -/
def readMixOrder (bus : Nat) (s : State) : Reply :=
  if 3 < bus then refuse .range s
  else done (mixBytes s bus) (s.setMix { s.mix with clips := s.mix.clips.setIfInBounds bus 0 })

def execReadMix (h : OrderHead) (bus : Nat) (s : State) : Host.Outcome State Fault Refusal :=
  .next (runOrder (.readMix h bus) h 0x61 (readMixOrder bus) s)

/-- R132. The row EXTERNAL, clear changes nothing whatever the presence (log 34). -/
def clearClockFaultOrder (s : State) : Reply :=
  match s.mix.selection, s.mix.fault with
  | .external, true =>
      if s.mix.present then done [] (raise .clock 2 0 (s.setMix { s.mix with inUse := .external, fault := false }))
      else refuse .state s
  | .external, false => done [] s
  | .internal, true => done [] (s.setMix { s.mix with fault := false })
  | .internal, false => done [] s

def execClearClockFault (h : OrderHead) (s : State) : Host.Outcome State Fault Refusal :=
  .next (runOrder (.clearClockFault h) h 0x97 clearClockFaultOrder s)

/-! ### The share controller (R145, R146) -/

/-- R145: a current share ends first, without handover, and the seat is granted. A GAP that is due is fitted ahead of the
SHARE END (R179, log 28). -/
def shareGrantTake (n : Nat) (s : State) : State := grantLane n .order (endShareOnly .order s)

/-- R145: the checks in order; check 4 asks for conditions 1 to 6 of R137, of which the first and third have passed. -/
def shareGrantOrder (n : Nat) (s : State) : Reply :=
  if !sessionLive s then refuse .noSession s
  else if !isSeat n then refuse .range s
  else if !present s n then refuse .absent s
  else if isHolder s n || !eligibleSix s n then refuse .state s
  else if shareRoom s s.share.holder.isSome then done [] (shareGrantTake n s)
  else refuse .logFull s

def execShareGrant (h : OrderHead) (seat : Nat) (s : State) : Host.Outcome State Fault Refusal :=
  .next (runOrder (.shareGrant h seat) h 0x68 (shareGrantOrder seat) s)

/-- The holder's seat, 0 with the lane free (R146). -/
def holderByte (s : State) : Byte := byte ((s.share.holder.map Holder.seat).getD 0)

/-- R146: SHARE END. -/
def shareEndOrder (s : State) : Reply :=
  if !sessionLive s then refuse .noSession s
  else if s.share.holder.isNone then refuse .state s
  else
    let t := endShare .order s
    done [holderByte t] t

def execShareEnd (h : OrderHead) (s : State) : Host.Outcome State Fault Refusal :=
  .next (runOrder (.shareEnd h) h 0x69 shareEndOrder s)

/-- R146: SHARE CLEAR WAITING. -/
def shareClearWaitingOrder (s : State) : Reply :=
  if sessionLive s then
    done [byte s.share.waiting.length] (s.setShare { s.share with waiting := [], deferred := none })
  else refuse .noSession s

def execShareClearWaiting (h : OrderHead) (s : State) : Host.Outcome State Fault Refusal :=
  .next (runOrder (.shareClearWaiting h) h 0x6A shareClearWaitingOrder s)

end Sys2Proof.Machine
end

