-- ==== Sys2Proof/Machine/PanelOrders.lean ====
section
/-! DEFINITION. Machine/PanelOrders.lean: the orders of the panel engine, 0x70 to 0x77 (chapter 8). -/

namespace Sys2Proof.Machine

/-! ### Staged orders (R161 to R163) -/

/-- R161, check 3, and the taking: the order enters the staging slot, and an IDLE executor takes it at once.
A job that completes within this step raises its PANEL notice before the order's ANSWER (log 42). -/
def stage (op : PanelOp) (targets : Targets) (s : State) : Reply :=
  if s.panel.staged.isSome then refuse .busy s
  else done [] (takeStaged (s.setPanel { s.panel with staged := some { op := op, targets := targets } }))

/-- R162: PANEL PAGE. -/
def panelPageOrder (page : Nat) (targets : TargetSet) (s : State) : Reply :=
  match pageOf page, targetsOf targets with
  | some p, some t => stage (.page p) t s
  | _, _ => refuse .range s

def execPanelPage (h : OrderHead) (page : Nat) (targets : TargetSet) (s : State) : Host.Outcome State Fault Refusal :=
  .next (runOrder (.panelPage h page targets) h 0x70 (panelPageOrder page targets) s)

/-- R162: PANEL TEXT: lines 0 to 7, 0 to 24 characters. -/
def panelTextOrder (canvas line : Nat) (text : List Byte) (targets : TargetSet) (s : State) : Reply :=
  match canvasOf canvas, targetsOf targets with
  | some c, some t => if line ≤ 7 ∧ text.length ≤ 24 then stage (.text c line text) t s else refuse .range s
  | _, _ => refuse .range s

def execPanelText (h : OrderHead) (canvas line : Nat) (text : List Byte) (targets : TargetSet) (s : State) :
    Host.Outcome State Fault Refusal :=
  .next (runOrder (.panelText h canvas line text targets) h 0x71 (panelTextOrder canvas line text targets) s)

/-- A bank is LOADED when its mask holds all sixteen pieces (R159). -/
def Bank.loaded (b : Bank) : Bool := b.toList.all Option.isSome

/-- R163, R161: PANEL TILE, with the check on the tile's front bank. -/
def panelTileOrder (tile canvas x y : Nat) (targets : TargetSet) (s : State) : Reply :=
  match canvasOf canvas, targetsOf targets with
  | some c, some t =>
      if tile ≤ 95 ∧ x ≤ 255 ∧ y ≤ 127 then
        if Bank.loaded (tileAt s tile).front then stage (.tile tile c x y) t s else refuse .state s
      else refuse .range s
  | _, _ => refuse .range s

def execPanelTile (h : OrderHead) (tile canvas x y : Nat) (targets : TargetSet) (s : State) :
    Host.Outcome State Fault Refusal :=
  .next (runOrder (.panelTile h tile canvas x y targets) h 0x72 (panelTileOrder tile canvas x y targets) s)

/-- R163: PANEL FILL; colour 0 clear, 1 set (R196). -/
def panelFillOrder (canvas x0 x1 y0 y1 colour : Nat) (targets : TargetSet) (s : State) : Reply :=
  match canvasOf canvas, flagOf colour, targetsOf targets with
  | some c, some k, some t =>
      if windowOk x0 x1 y0 y1 then stage (.fill c x0 x1 y0 y1 k) t s else refuse .range s
  | _, _, _ => refuse .range s

def execPanelFill (h : OrderHead) (canvas x0 x1 y0 y1 colour : Nat) (targets : TargetSet) (s : State) :
    Host.Outcome State Fault Refusal :=
  .next (runOrder (.panelFill h canvas x0 x1 y0 y1 colour targets) h 0x73
    (panelFillOrder canvas x0 x1 y0 y1 colour targets) s)

/-! ### SET CLIP (R164) -/

/-- The window is written into each resolved seat's record. -/
def writeWindow (w : Window) (seats : List Nat) (s : State) : State :=
  seats.foldl (fun t n => setPanelOf n { panelOf t n with window := w } t) s

/-- R164: taken at once; the answer counts the records written. -/
def setClipOrder (x0 x1 y0 y1 : Nat) (targets : TargetSet) (s : State) : Reply :=
  match targetsOf targets with
  | some t =>
      if windowOk x0 x1 y0 y1 then
        let seats := resolveClip s t
        done [byte seats.length] (writeWindow { x0 := x0, x1 := x1, y0 := y0, y1 := y1 } seats s)
      else refuse .range s
  | none => refuse .range s

def execSetClip (h : OrderHead) (x0 x1 y0 y1 : Nat) (targets : TargetSet) (s : State) :
    Host.Outcome State Fault Refusal :=
  .next (runOrder (.setClip h x0 x1 y0 y1 targets) h 0x74 (setClipOrder x0 x1 y0 y1 targets) s)

/-! ### The tile store (R159, R160) -/

def setTile (n : Nat) (t : Tile) (s : State) : State :=
  s.setPanel { s.panel with tiles := s.panel.tiles.setIfInBounds n t }

/-- R159: the data goes into the piece of the back bank, which puts the piece in its mask. -/
def tileLoadOrder (tile piece : Nat) (data : List Byte) (s : State) : Reply :=
  if 95 < tile ∨ 15 < piece then refuse .range s
  else
    let t := tileAt s tile
    done [] (setTile tile { t with back := t.back.setIfInBounds piece (some data) } s)

def execTileLoad (h : OrderHead) (tile piece : Nat) (data : List Byte) (s : State) :
    Host.Outcome State Fault Refusal :=
  .next (runOrder (.tileLoad h tile piece data) h 0x75 (tileLoadOrder tile piece data) s)

/-- Whether the staged order or the running job is a PANEL TILE that names the tile (R160, check 3). -/
def tileInUse (s : State) (tile : Nat) : Bool :=
  (match s.panel.staged with
   | none => false
   | some x => x.op.namesTile tile) ||
  (match s.panel.job with
   | none => false
   | some j => j.op.namesTile tile)

/-- R160: the checks in order, and the exchange of the banks. -/
def tileFlipOrder (tile : Nat) (s : State) : Reply :=
  if 95 < tile then refuse .range s
  else
    let t := tileAt s tile
    if !Bank.loaded t.back then refuse .state s
    else if tileInUse s tile then refuse .busy s
    else done [] (setTile tile { front := t.back, back := t.front } s)

def execTileFlip (h : OrderHead) (tile : Nat) (s : State) : Host.Outcome State Fault Refusal :=
  .next (runOrder (.tileFlip h tile) h 0x76 (tileFlipOrder tile) s)

/-! ### READ PANEL (R168) -/

/-- READ PANEL's result: 16 bytes (R201). The bytes of an absent lamp sent, job or staged order are 0 (log 47). -/
def panelBytes (s : State) (n : Nat) : List Byte :=
  let r := panelOf s n
  let targets := (s.panel.job.map Job.targets).getD []
  let flags := r.lampDirty.toNat + 2 * r.pageDirty.toNat + 4 * r.listDirty.toNat + 8 * r.lampSent.isSome.toNat +
    16 * r.flash.toNat + 32 * (screenSeat s n).toNat + 64 * (targets.contains n).toNat
  [byte r.page.code, byte r.window.x0, byte r.window.x1, byte r.window.y0, byte r.window.y1, byte flags] ++
  (r.lampSent.map LampContent.bytes).getD [0, 0, 0] ++ (lampNow s n).bytes ++
  [flagByte s.panel.job.isSome, byte ((s.panel.job.map fun j => j.op.code).getD 0), byte targets.length,
   byte ((s.panel.staged.map fun x => x.op.code).getD 0)]

/-- R168. -/
def readPanelOrder (n : Nat) (s : State) : Reply :=
  if isSeat n then done (panelBytes s n) s else refuse .range s

def execReadPanel (h : OrderHead) (seat : Nat) (s : State) : Host.Outcome State Fault Refusal :=
  .next (runOrder (.readPanel h seat) h 0x77 (readPanelOrder seat) s)

end Sys2Proof.Machine
end

