-- ==== Sys2Proof/Machine/MinutesOrders.lean ====
section
/-! DEFINITION. Machine/MinutesOrders.lean: the orders of the minutes unit, 0x80 to 0x82 (chapter 9). -/

namespace Sys2Proof.Machine

/-- R180: the change of mode is an occasion for auto-open and then for handover. -/
def takeMode (c : Session) (m : MinutesMode) (s : State) : State :=
  handover (autoOpen (s.setCtx (some { c with mode := m })))

/-- R180: the checks in order. -/
def setLogModeOrder (mode : Nat) (s : State) : Reply :=
  match minutesModeOf mode, liveCtx s with
  | none, _ => refuse .range s
  | some _, none => refuse .noSession s
  | some m, some c =>
      if m = c.mode then done [] s
      else if m = .strict ∧ freeEntries s < reserve s then refuse .logFull s
      else done [] (takeMode c m s)

def execSetLogMode (h : OrderHead) (mode : Nat) (s : State) : Host.Outcome State Fault Refusal :=
  .next (runOrder (.setLogMode h mode) h 0x80 (setLogModeOrder mode) s)

/-- The range that SET LOG RANGE carries, its fields in range (R173). -/
def logRangeOf (enabled first last mask : Nat) : Option LogRange :=
  match flagOf enabled with
  | none => none
  | some e =>
      if 1 ≤ first ∧ first ≤ last ∧ last ≤ 80 ∧ mask ≤ 7 then
        some { enabled := e, first := first, last := last, mask := BitVec.ofNat 3 mask }
      else none

/-- Range A or B is replaced whole. -/
def storeRange (b : Bool) (r : LogRange) (s : State) : State :=
  if b then s.setMinutes { s.minutes with rangeB := r } else s.setMinutes { s.minutes with rangeA := r }

/-- R173: the checks in order. -/
def setLogRangeOrder (range enabled first last mask : Nat) (s : State) : Reply :=
  match flagOf range, logRangeOf enabled first last mask with
  | some b, some r => if sessionLive s then refuse .state s else done [] (storeRange b r s)
  | _, _ => refuse .range s

def execSetLogRange (h : OrderHead) (range enabled first last mask : Nat) (s : State) :
    Host.Outcome State Fault Refusal :=
  .next (runOrder (.setLogRange h range enabled first last mask) h 0x81
    (setLogRangeOrder range enabled first last mask) s)

/-- A log range as READ LOG carries it (R201). -/
def LogRange.bytes (r : LogRange) : List Byte :=
  [flagByte r.enabled, byte r.first, byte r.last, byte r.mask.toNat]

/-- The minutes mode in READ LOG: 2 with no context (R186, R196). -/
def modeCode (s : State) : Nat :=
  match s.ctx with
  | none => 2
  | some c => c.mode.code

/-- READ LOG's result: 18 bytes (R201). -/
def logBytes (s : State) : List Byte :=
  [byte (freeEntries s), byte s.minutes.queue.length] ++ bytes2 s.minutes.drop ++
  [byte s.minutes.credits, flagByte s.minutes.flight.isSome, byte (modeCode s), byte (reserve s)] ++
  bytes2 s.minutes.nextSeq ++ s.minutes.rangeA.bytes ++ s.minutes.rangeB.bytes

/-- R186. -/
def readLogOrder (s : State) : Reply := done (logBytes s) s

def execReadLog (h : OrderHead) (s : State) : Host.Outcome State Fault Refusal :=
  .next (runOrder (.readLog h) h 0x82 readLogOrder s)

end Sys2Proof.Machine
end

