-- ==== Sys2Proof/Machine/SystemOrders.lean ====
section
/-! DEFINITION. Machine/SystemOrders.lean: the orders of the order unit and of the supply and cadence unit, 0x90 to 0x93,
0x95, 0x96 and 0x98 (chapters 10 and 11). -/

namespace Sys2Proof.Machine

/-! ### The order unit (R193 to R195) -/

/-- A cause set (R196): cause n in bit n - 1. -/
def causeSet (f : Nat → Bool) : Nat := ((List.range' 1 11).map fun n => if f n then 2 ^ (n - 1) else 0).sum

/-- READ STATUS' result: 16 bytes (R201). -/
def statusBytes (s : State) : List Byte :=
  [byte s.supply.code, flagByte s.hold.backupEnable, byte (backupCode s.sup.backup), byte s.sup.cadence.code,
   flagByte s.ring.broken, flagByte s.mix.fault, flagByte s.stn.locked, flagByte s.guardLock,
   flagByte s.hold.guardSet, flagByte s.hold.clockValid] ++
  bytes2 s.ring.badCells ++ bytes2 (causeSet (causePending s)) ++ bytes2 s.orders.mask.toNat

/-- R195: the bad-cell count is then 0. -/
def readStatusOrder (s : State) : Reply := done (statusBytes s) (s.setRing { s.ring with badCells := 0 })

def execReadStatus (h : OrderHead) (s : State) : Host.Outcome State Fault Refusal :=
  .next (runOrder (.readStatus h) h 0x90 readStatusOrder s)

/-- The mask that a carried cause set puts in force: causes 4 to 11 alone (R194; other bits, log 18). -/
def maskOf (m : BitVec 16) : BitVec 16 := m &&& 0x07F8#16

/-- R194: the mask is replaced; if that makes a cause pending and unmasked where none was, an ALERT is offered (R192, log 42). -/
def storeMask (m : BitVec 16) (s : State) : State :=
  let t := s.setOrders { s.orders with mask := maskOf m }
  if highestCause s = 0 then offerAlert t else t

/-- R194. -/
def setNoticeMaskOrder (m : BitVec 16) (s : State) : Reply := done (bytes2 (maskOf m).toNat) (storeMask m s)

def execSetNoticeMask (h : OrderHead) (mask : BitVec 16) (s : State) : Host.Outcome State Fault Refusal :=
  .next (runOrder (.setNoticeMask h mask) h 0x91 (setNoticeMaskOrder mask) s)

/-- TAKE NOTICE's result: cause, event, value, count (R201). -/
def noticeBytes (cause event value count : Nat) : List Byte :=
  [byte cause, byte event] ++ bytes2 value ++ [byte count]

/-- R193: the highest pending unmasked cause is answered and cleared; START pops its highest cause, whose code is the
event (R191; its value, and the value and count of NONE, are log 19's). The next ALERT follows the ANSWER (R192). -/
def takeNoticeOrder (s : State) : Reply :=
  let n := highestCause s
  if n = 0 then done (noticeBytes 0 0 0 0) s
  else if n = 1 then
    { state := s.setOrders { s.orders with starts := s.orders.starts.tail }, status := .done,
      result := noticeBytes 1 ((s.orders.starts.head?.map StartCause.code).getD 0) 0 s.orders.starts.length,
      follow := .alert }
  else
    let x := noticeAt s n
    { state := setNotice n { x with pending := false, count := 0 } s, status := .done,
      result := noticeBytes n x.event x.value x.count, follow := .alert }

def execTakeNotice (h : OrderHead) (s : State) : Host.Outcome State Fault Refusal :=
  .next (runOrder (.takeNotice h) h 0x92 takeNoticeOrder s)

/-- R194: no cause is pending any more, masked or not. -/
def clearAllNotices (s : State) : State :=
  s.setOrders { s.orders with notices := s.orders.notices.map fun x => { x with pending := false, count := 0 },
                              starts := [] }

/-- R194: CLEAR NOTICES. -/
def clearNoticesOrder (s : State) : Reply := done [] (clearAllNotices s)

def execClearNotices (h : OrderHead) (s : State) : Host.Outcome State Fault Refusal :=
  .next (runOrder (.clearNotices h) h 0x93 clearNoticesOrder s)

/-! ### The supply and cadence unit (R205, R210) -/

def setBackupEnable (b : Bool) (s : State) : State := s.setHold { s.hold with backupEnable := b }

/-- R205: ENABLE BACKUP. -/
def enableBackupOrder (s : State) : Reply :=
  match s.sup.backup with
  | .ok => done [] (setBackupEnable true s)
  | .low => refuse .state s

def execEnableBackup (h : OrderHead) (s : State) : Host.Outcome State Fault Refusal :=
  .next (runOrder (.enableBackup h) h 0x95 enableBackupOrder s)

/-- R205: DISABLE BACKUP. -/
def disableBackupOrder (s : State) : Reply := done [] (setBackupEnable false s)

def execDisableBackup (h : OrderHead) (s : State) : Host.Outcome State Fault Refusal :=
  .next (runOrder (.disableBackup h) h 0x96 disableBackupOrder s)

/-- R210: the restart becomes pending; it waits for the frame of its ANSWER. -/
def restartOrder (s : State) : Reply :=
  match s.sup.restart with
  | .absent => done [] (s.setSup { s.sup with restart := .answering })
  | .answering => done [] s
  | .ready => done [] s

def execRestart (h : OrderHead) (s : State) : Host.Outcome State Fault Refusal :=
  .next (runOrder (.restart h) h 0x98 restartOrder s)

end Sys2Proof.Machine
end

