-- ==== Sys2Proof/Machine/Dispatch.lean ====
section
/-! DEFINITION. Machine/Dispatch.lean: one arm per command, each one direct call of its meaning. -/

namespace Sys2Proof.Machine

def exec (i : Instr) (s : State) : Host.Outcome State Fault Refusal :=
  match i with
  | .frameEmit => Sys2Proof.Machine.execFrameEmit s
  | .frameReturn number lane slots => Sys2Proof.Machine.execFrameReturn number lane slots s
  | .frameFail => Sys2Proof.Machine.execFrameFail s
  | .probeRound => Sys2Proof.Machine.execProbeRound s
  | .haltIntervalExpiry seat => Sys2Proof.Machine.execHaltIntervalExpiry seat s
  | .graceExpiry => Sys2Proof.Machine.execGraceExpiry s
  | .tableTimeTick => Sys2Proof.Machine.execTableTimeTick s
  | .speakLimitExpiry seat => Sys2Proof.Machine.execSpeakLimitExpiry seat s
  | .flashExpiry seat => Sys2Proof.Machine.execFlashExpiry seat s
  | .listRefreshExpiry => Sys2Proof.Machine.execListRefreshExpiry s
  | .cadenceTimerExpiry => Sys2Proof.Machine.execCadenceTimerExpiry s
  | .externalPresent => Sys2Proof.Machine.execExternalPresent s
  | .externalLoss => Sys2Proof.Machine.execExternalLoss s
  | .mainsLoss => Sys2Proof.Machine.execMainsLoss s
  | .mainsReturn reading => Sys2Proof.Machine.execMainsReturn reading s
  | .backupLow => Sys2Proof.Machine.execBackupLow s
  | .backupOk => Sys2Proof.Machine.execBackupOk s
  | .resetLineLow => Sys2Proof.Machine.execResetLineLow s
  | .resetLineRelease reading => Sys2Proof.Machine.execResetLineRelease reading s
  | .restartExecute reading => Sys2Proof.Machine.execRestartExecute reading s
  | .readStation h number => Sys2Proof.Machine.execReadStation h number s
  | .forget h number => Sys2Proof.Machine.execForget h number s
  | .haltSeat h number => Sys2Proof.Machine.execHaltSeat h number s
  | .resumeSeat h number => Sys2Proof.Machine.execResumeSeat h number s
  | .bypass h number => Sys2Proof.Machine.execBypass h number s
  | .unbypass h number => Sys2Proof.Machine.execUnbypass h number s
  | .clearCall h number => Sys2Proof.Machine.execClearCall h number s
  | .loadPlan h plan enabled chair1 chair2 shareRight => Sys2Proof.Machine.execLoadPlan h plan enabled chair1 chair2 shareRight s
  | .readPlan h plan => Sys2Proof.Machine.execReadPlan h plan s
  | .loadWalkIn h fields => Sys2Proof.Machine.execLoadWalkIn h fields s
  | .readWalkIn h => Sys2Proof.Machine.execReadWalkIn h s
  | .setClock h time guard => Sys2Proof.Machine.execSetClock h time guard s
  | .readClock h => Sys2Proof.Machine.execReadClock h s
  | .book h fields => Sys2Proof.Machine.execBook h fields s
  | .alter h id fields => Sys2Proof.Machine.execAlter h id fields s
  | .cancel h id => Sys2Proof.Machine.execCancel h id s
  | .readBooking h position => Sys2Proof.Machine.execReadBooking h position s
  | .setHorizon h time => Sys2Proof.Machine.execSetHorizon h time s
  | .lowerHorizon h time guard => Sys2Proof.Machine.execLowerHorizon h time guard s
  | .eraseBookings h guard => Sys2Proof.Machine.execEraseBookings h guard s
  | .setGuard h value => Sys2Proof.Machine.execSetGuard h value s
  | .startNow h => Sys2Proof.Machine.execStartNow h s
  | .endNow h => Sys2Proof.Machine.execEndNow h s
  | .extend h => Sys2Proof.Machine.execExtend h s
  | .raiseGrade h grade => Sys2Proof.Machine.execRaiseGrade h grade s
  | .adjustSession h field value => Sys2Proof.Machine.execAdjustSession h field value s
  | .switchPlan h plan => Sys2Proof.Machine.execSwitchPlan h plan s
  | .readSession h => Sys2Proof.Machine.execReadSession h s
  | .grant h seat force => Sys2Proof.Machine.execGrant h seat force s
  | .close h seat => Sys2Proof.Machine.execClose h seat s
  | .closeAll h chairs => Sys2Proof.Machine.execCloseAll h chairs s
  | .queueInsert h seat position => Sys2Proof.Machine.execQueueInsert h seat position s
  | .queueRemove h seat => Sys2Proof.Machine.execQueueRemove h seat s
  | .queueClear h => Sys2Proof.Machine.execQueueClear h s
  | .readQueue h position => Sys2Proof.Machine.execReadQueue h position s
  | .readChannels h => Sys2Proof.Machine.execReadChannels h s
  | .setGain h bus source code => Sys2Proof.Machine.execSetGain h bus source code s
  | .readMix h bus => Sys2Proof.Machine.execReadMix h bus s
  | .shareGrant h seat => Sys2Proof.Machine.execShareGrant h seat s
  | .shareEnd h => Sys2Proof.Machine.execShareEnd h s
  | .shareClearWaiting h => Sys2Proof.Machine.execShareClearWaiting h s
  | .panelPage h page targets => Sys2Proof.Machine.execPanelPage h page targets s
  | .panelText h canvas line text targets => Sys2Proof.Machine.execPanelText h canvas line text targets s
  | .panelTile h tile canvas x y targets => Sys2Proof.Machine.execPanelTile h tile canvas x y targets s
  | .panelFill h canvas x0 x1 y0 y1 colour targets => Sys2Proof.Machine.execPanelFill h canvas x0 x1 y0 y1 colour targets s
  | .setClip h x0 x1 y0 y1 targets => Sys2Proof.Machine.execSetClip h x0 x1 y0 y1 targets s
  | .tileLoad h tile piece data => Sys2Proof.Machine.execTileLoad h tile piece data s
  | .tileFlip h tile => Sys2Proof.Machine.execTileFlip h tile s
  | .readPanel h seat => Sys2Proof.Machine.execReadPanel h seat s
  | .setLogMode h mode => Sys2Proof.Machine.execSetLogMode h mode s
  | .setLogRange h range enabled first last mask => Sys2Proof.Machine.execSetLogRange h range enabled first last mask s
  | .readLog h => Sys2Proof.Machine.execReadLog h s
  | .readStatus h => Sys2Proof.Machine.execReadStatus h s
  | .setNoticeMask h mask => Sys2Proof.Machine.execSetNoticeMask h mask s
  | .takeNotice h => Sys2Proof.Machine.execTakeNotice h s
  | .clearNotices h => Sys2Proof.Machine.execClearNotices h s
  | .loadRingPlan h fields => Sys2Proof.Machine.execLoadRingPlan h fields s
  | .enableBackup h => Sys2Proof.Machine.execEnableBackup h s
  | .disableBackup h => Sys2Proof.Machine.execDisableBackup h s
  | .clearClockFault h => Sys2Proof.Machine.execClearClockFault h s
  | .restart h => Sys2Proof.Machine.execRestart h s

end Sys2Proof.Machine
end

