-- ==== Sys2Proof/Machine/Step.lean ====
section
/-! DEFINITION. Machine/Step.lean: a step takes the command at the front of the queue. -/

namespace Sys2Proof.Machine

/-- The command at the front is carried out on the state whose queue is the rest. On an empty queue the block idles
(log 4). -/
def step (s : State) : Host.Outcome State Fault Refusal :=
  match s.pending with
  | [] => .next s
  | i :: rest => exec i (s.setPending rest)

/-- The command that a word spells, put at the front of the queue. No word spells one (decodeTableWord). -/
def State.withFetchWord (s : State) (nbits w : Nat) : State :=
  match decodeTableWord nbits w with
  | none => s
  | some i => s.setPending (i :: s.pending)

end Sys2Proof.Machine
end

