-- ==== Sys2Proof/Safety.lean ====
section
/-! DEFINITION. Safety.lean: what the statements about this model speak of: an order that is about to be carried out, the
state an answered order leaves, the blocks that the floor's work leaves alone, and the invariants. -/

namespace Sys2Proof.Machine

/-! ### Orders -/

/-- The order is about to be carried out: the main domain runs and the order stands at the head of the inbound queue
(R188). -/
abbrev Ready (i : Instr) (s : State) : Prop := mainRunning s = true ∧ s.orders.inbound.head? = some i

/-- The ANSWER with the part of the result that was asked for is offered in class 2, and the order has left the inbound
queue (R188, R199, R201). -/
def withAnswer (h : OrderHead) (code : Nat) (status : Status) (result : List Byte) (s : State) : State :=
  let a : Answer :=
    { dest := h.source, tag := h.tag, code := code, status := status, part := h.part, parts := partsOf code,
      result := (result.drop (28 * h.part)).take 28 }
  { s with sched := { s.sched with class2 := s.sched.class2 ++ [.answer a] },
           orders := { s.orders with inbound := s.orders.inbound.tail } }

/-- The state that an order leaves behind it, `s` being what its owner has made: the answer is offered, and the command ends
as every command of the main domain does: the list refresh timer stands as R157 has it, and the presentation arbiter has
offered a cell if one was ready and none waited (R167). -/
def answered (h : OrderHead) (code : Nat) (status : Status) (result : List Byte) (s : State) : State :=
  settle (withAnswer h code status result s)

/-! ### Frames -/

/-- What the floor's work (queue, channels, share, panels, minutes, marks and notices) leaves alone. -/
def FloorFrame (s t : State) : Prop :=
  t.supply = s.supply ∧ t.nrstLow = s.nrstLow ∧ t.awaited = s.awaited ∧ t.hold = s.hold ∧ t.ring = s.ring ∧
  t.stn = s.stn ∧ t.guardLock = s.guardLock ∧ t.ctx = s.ctx ∧ t.mix = s.mix ∧ t.sup = s.sup ∧
  t.freeCount = s.freeCount ∧ t.pending = s.pending

/-! ### Invariants -/

/-- A profile's initial grade and speak limit (R35). -/
abbrev ProfileInRange (p : Profile) : Prop := p.grade ≤ 3 ∧ p.speakLimit ≤ 1800

/-- Table time, the horizon, the next id, the size of the booking table; each booking's id, plan, grade reached, extensions
used and profile; the walk-in profile; and what the session context has of them (R29, R32, R33, R35, R40, R50, R65, R70). -/
abbrev CalendarInRange (s : State) : Prop :=
  s.hold.tableTime ≤ 4294967295 ∧ s.hold.horizon ≤ 4294967295 ∧ 1 ≤ s.hold.nextId ∧ s.hold.nextId ≤ 65535 ∧
  s.hold.bookings.length ≤ 48 ∧
  (∀ b ∈ s.hold.bookings, 1 ≤ b.id ∧ b.id ≤ 65535 ∧ b.plan ≤ 7 ∧ b.grade ≤ 3 ∧ b.used ≤ 3 ∧ ProfileInRange b.profile) ∧
  s.hold.walkIn.plan ≤ 7 ∧ 15 ≤ s.hold.walkIn.length ∧ s.hold.walkIn.length ≤ 240 ∧ s.hold.walkIn.gap ≤ 30 ∧
  ProfileInRange s.hold.walkIn.profile ∧
  (∀ c ∈ s.ctx.toList, 1 ≤ c.id ∧ c.id ≤ 65535 ∧ c.plan ≤ 7 ∧ c.grade ≤ 3 ∧ ProfileInRange c.profile)

/-- The counters of the ring unit and the ring plan; the ring is BROKEN exactly when 32 frames in a row have failed (R2,
R6, R8, R10, R26). -/
abbrev RingInRange (s : State) : Prop :=
  s.ring.nextFrame < 4096 ∧ (∀ f ∈ s.ring.flight.toList, f.number < 4096) ∧ s.ring.failures ≤ 32 ∧
  s.ring.badCells ≤ 65535 ∧ s.ring.broken = decide (s.ring.failures = 32) ∧
  1 ≤ s.stn.plan.expected ∧ s.stn.plan.expected ≤ 80 ∧ 50 ≤ s.stn.plan.period ∧ s.stn.plan.period ≤ 1000 ∧
  2 ≤ s.stn.plan.limit ∧ s.stn.plan.limit ≤ 7 ∧ 50 ≤ s.stn.period ∧ s.stn.period ≤ 1000

/-- Gain codes and clip counts (R123, R128), credits (R181), the drop count (R178), the inbound orders (R187), the counts
of the notices (R190), the speak timers (R108) and the miss count of a piece, which stays below every missed limit
(R26, R165). -/
abbrev CountsInRange (s : State) : Prop :=
  (∀ c ∈ s.mix.codes.toList, c ≤ 40) ∧ (∀ c ∈ s.mix.clips.toList, c ≤ 65535) ∧
  s.minutes.credits ≤ 32 ∧ s.minutes.drop ≤ 65535 ∧
  s.orders.inbound.length ≤ 4 ∧ (∀ i ∈ s.orders.inbound, i.wellFormed = true) ∧
  (∀ x ∈ s.orders.notices.toList, x.count ≤ 255) ∧
  (∀ x ∈ s.chan.table.toList, ∀ e ∈ x.toList, ∀ t ∈ e.timer.toList, t.remaining ≤ 1800) ∧
  (∀ j ∈ s.panel.job.toList, j.misses < 7)

/-- The numbers of the three lists above are in their ranges. -/
abbrev InRange (s : State) : Prop := CalendarInRange s ∧ RingInRange s ∧ CountsInRange s

/-- The floor's tables agree (R72, R94, R112, R135): the queue holds at most 32 different seats, none of which has an open
microphone; the opening order lists each occupied channel once; no seat holds two channels; a hold mode stands exactly
while a seat holds priority; the share waiting list holds at most 4 different seats. -/
abbrev FloorTables (s : State) : Prop :=
  s.queue.length ≤ 32 ∧ s.queue.Nodup ∧ (∀ n ∈ s.queue, isSeat n = true ∧ micOpen s n = false) ∧
  s.chan.order.Nodup ∧ (∀ k ∈ s.chan.order, k < 8) ∧
  (∀ k < 8, k ∈ s.chan.order ↔ (channelAt s k).isSome = true) ∧
  ((channels s).map Channel.seat).Nodup ∧
  s.chan.holders.Nodup ∧ (s.chan.holders = [] ↔ s.chan.holdMode = none) ∧
  s.share.waiting.length ≤ 4 ∧ s.share.waiting.Nodup

/-- Every station record agrees with its state (R11): the missed count is at most 7, a halt time stands exactly in HALTED,
a held RESUME in HALTED alone, and a record that is not VACANT has an identity. -/
abbrev StationTable (s : State) : Prop :=
  ∀ r ∈ s.stn.records.toList,
    r.missed ≤ 7 ∧ (r.state = .halted ↔ r.haltTime.isSome = true) ∧ (r.heldResume = true → r.state = .halted) ∧
    (r.state ≠ .vacant → r.identity.isSome = true)

/-- The minutes queue holds at most 32 records whose sequence numbers run on without a gap, modulo 65,536, up to the next
sequence (R174). -/
abbrev MinutesSequence (s : State) : Prop :=
  s.minutes.nextSeq < 65536 ∧ s.minutes.queue.length ≤ 32 ∧
  s.minutes.queue.map MinuteRecord.seq =
    (List.range s.minutes.queue.length).map fun i =>
      (s.minutes.nextSeq + 65536 - s.minutes.queue.length + i) % 65536

end Sys2Proof.Machine
end

