-- ==== Sys2Proof/Certificates/Slice0/Obligations.lean ====
section
/-! DEFINITION. Certificates/Slice0/Obligations.lean: the statements for the provers. -/

open Sys2Proof Sys2Proof.Machine

/-! ### The step, the reset state, the invariants -/

/-- A step takes the command at the front of the queue and runs it on the state with the rest of the queue; on an empty
queue the block idles (the model's convention, log 4). -/
def Obligations.StepRunsFrontCommand : Prop :=
  (∀ (c : Instr) (rest : List Instr) (s : State), s.pending = c :: rest →
    step s = exec c { s with pending := rest }) ∧
  (∀ s : State, s.pending = [] → step s = .next s)

/-- No command stops the machine, and none touches the queue of commands that wait. (That the manual stops no command is
the model's reading, log 36; the queue of waiting commands is the model's own, log 39.) -/
def Obligations.EveryCommandAnswersNext : Prop :=
  ∀ (i : Instr) (s : State), ∃ t, exec i s = .next t ∧ t.pending = s.pending

/-- What the manual says a cold start leaves. That State.reset is the part right after one is the model's choice
(log 1). -/
def Obligations.ResetIsAColdStart : Prop :=
  State.reset.supply = .run ∧
  State.reset.hold =
    { tableTime := 0, clockValid := false, bookings := [], nextId := 1, horizon := 0, guard := 0, guardSet := false,
      backupEnable := false,
      plans := Vector.replicate 8 { enabled := BitVec.allOnes 80, chairs := [], shareRight := BitVec.allOnes 80 },
      walkIn := { allowed := false, plan := 0, profile := Profile.walkInDefault, length := 60, gap := 5 } } ∧
  State.reset.stn.records = Vector.replicate 83
    { identity := none, caps := none, echo := none, state := .vacant, missed := 0, call := false, haltTime := none,
      haltOver := false, heldResume := false } ∧
  State.reset.stn.plan =
    { expected := 80, period := 200, limit := 3, idleAllowed := true, contentFitted := true, clockSource := .internal,
      keepOpen := false } ∧
  State.reset.stn.period = 200 ∧ State.reset.stn.locked = false ∧ State.reset.stn.short = false ∧
  State.reset.guardLock = false ∧ State.reset.ctx = none ∧ State.reset.queue = [] ∧
  State.reset.ring =
    { nextFrame := 0, fresh := true, flight := none, failures := 0, broken := false, badCells := 0 } ∧
  State.reset.sched.class1 = [] ∧ State.reset.sched.class2 = [] ∧
  State.reset.sched.class3 = [.resumeAll, .unbypassAll] ∧ State.reset.sched.presentation = none ∧
  State.reset.sched.minute = none ∧ State.reset.sched.last4 = .minutes ∧
  State.reset.chan =
    { table := Vector.replicate 8 none, order := [], holders := [], holdMode := none, deferred := none } ∧
  (∀ bus < 4, ∀ source < 10, gainCode State.reset bus source = if bus = 3 ∧ source = 9 then 0 else 40) ∧
  State.reset.mix.clips = Vector.replicate 4 0 ∧ State.reset.mix.selection = .internal ∧
  State.reset.mix.inUse = .internal ∧ State.reset.mix.formed = none ∧
  State.reset.mix.fault = false ∧ State.reset.mix.present = false ∧
  State.reset.share = { holder := none, waiting := [], grace := none, deferred := none } ∧
  State.reset.panel.records = Vector.replicate 80
    { page := .blank, window := { x0 := 0, x1 := 255, y0 := 0, y1 := 127 }, lampDirty := false, pageDirty := false,
      listDirty := false, lampSent := none, flash := false } ∧
  State.reset.panel.staged = none ∧ State.reset.panel.job = none ∧
  State.reset.panel.tiles = Vector.replicate 96
    { front := Vector.replicate 16 none, back := Vector.replicate 16 none } ∧
  State.reset.panel.refresh = false ∧ State.reset.panel.turn = .refresh ∧
  State.reset.minutes =
    { queue := [], nextSeq := 0, rangeA := { enabled := true, first := 1, last := 80, mask := 7 },
      rangeB := { enabled := false, first := 1, last := 80, mask := 7 }, drop := 0, credits := 0, flight := none } ∧
  State.reset.orders.inbound = [] ∧ State.reset.orders.starts = [.coldStart] ∧ State.reset.orders.mask = 0 ∧
  State.reset.orders.alert = .none ∧ 
  (∀ n, 2 ≤ n → n ≤ 11 → (noticeAt State.reset n).pending = false ∧ (noticeAt State.reset n).count = 0) ∧
  State.reset.sup.cadence = .idle ∧ State.reset.sup.timer = false ∧ State.reset.sup.restart = .absent

/-- The invariants hold at reset. -/
def Obligations.ResetMeetsInvariants : Prop :=
  InRange State.reset ∧ FloorTables State.reset ∧ StationTable State.reset ∧ MinutesSequence State.reset

/-- What InRange lists stays in its range: table time, the horizon, the next id, the sizes of the tables and queues; the
bookings' ids, plans, grades reached and extensions used, the grades and speak limits of their profiles and of the
walk-in profile; the context's id, plan, grade and speak limit, and the speak timers; frame numbers, failures and bad
cells, with the ring BROKEN exactly at 32 failures in a row; the ring plan; gain codes, clip counts, credits, drops,
notice counts and the miss count of a piece. -/
def Obligations.StepKeepsRanges : Prop :=
  ∀ s t : State, InRange s → step s = .next t → InRange t

/-- The queue, the channel table, the opening order, the holding set and the share waiting list stay consistent. -/
def Obligations.StepKeepsFloorTables : Prop :=
  ∀ s t : State, FloorTables s → step s = .next t → FloorTables t

/-- Every station record stays consistent with its state. -/
def Obligations.StepKeepsStationTable : Prop :=
  ∀ s t : State, StationTable s → step s = .next t → StationTable t

/-- The sequence numbers of the minutes queue run on without a gap. -/
def Obligations.StepKeepsMinutesSequence : Prop :=
  ∀ s t : State, MinutesSequence s → step s = .next t → MinutesSequence t

/-! ### Orders on the wire -/

/-- The body of every well-formed order fits an ORDER cell, and its fields read back as the order they came from. -/
def Obligations.OrderBodiesReadBack : Prop :=
  ∀ (i : Instr) (h : OrderHead) (code : Nat), i.wellFormed = true → i.head = some h → i.orderCode = some code →
    i.orderBody.length ≤ 32 ∧ parseOrder h code i.fieldBytes = some i

/-- A cell of a station's kind reads back from the bytes that carry it, and with any other check it is bad. -/
def Obligations.CellsReadBack : Prop :=
  ∀ (dest source tag kind : Nat) (k : InKind) (body : List Byte), dest < 256 → source < 256 → tag < 256 →
    kind < 256 → inKindOf kind = some k → body.length ≤ 32 →
    parseCell (cellBytes dest source kind tag body) =
      some { dest := dest, source := source, kind := k, tag := tag, body := body } ∧
    (∀ c0 c1 : Byte, bytes2 (crc16 ([byte dest, byte source, byte kind, byte tag, byte body.length] ++ body)).toNat
        ≠ [c0, c1] →
      parseCell ([byte dest, byte source, byte kind, byte tag, byte body.length] ++ body ++ [c0, c1]) = none)

/-- A well-formed order that passes the checks of R187 and finds the inbound queue empty is carried out as if it had
been waiting there (the model's convention for order commands, log 3). -/
def Obligations.ArrivingOrderIsCarriedOut : Prop :=
  ∀ (i : Instr) (h : OrderHead) (code : Nat) (s : State), mainRunning s = true → s.orders.inbound = [] →
    i.head = some h → i.orderCode = some code → i.wellFormed = true → h.source = 81 → present s 81 = true →
    h.part < partsOf code →
    exec i s = exec i { s with orders := { s.orders with inbound := [i] } }

/-- The order unit's own refusals at arrival: NO RIGHT, then MALFORMED for operands that fit no body of the code or a part
that the result does not have, then BUSY. (That an order command which does not stand at the head of the inbound queue
arrives is the model's convention, log 3; that no ALERT follows the ANSWER of a TAKE NOTICE refused at arrival is the
model's choice, log 49.) -/
def Obligations.ArrivalRefusals : Prop :=
  ∀ (i : Instr) (h : OrderHead) (code : Nat) (s : State), mainRunning s = true →
    s.orders.inbound.head? ≠ some i → i.head = some h → i.orderCode = some code →
    let answer (status : Status) : Host.Outcome State Fault Refusal :=
      .next (settle { s with sched := { s.sched with class2 := s.sched.class2 ++
        [.answer { dest := h.source, tag := h.tag, code := code, status := status, part := h.part,
                   parts := partsOf code, result := [] }] } })
    (¬ (h.source = 81 ∧ present s 81 = true) → exec i s = answer .noRight) ∧
    (h.source = 81 → present s 81 = true → i.wellFormed = false ∨ partsOf code ≤ h.part →
      exec i s = answer .malformed) ∧
    (h.source = 81 → present s 81 = true → i.wellFormed = true → h.part < partsOf code →
      4 ≤ s.orders.inbound.length → exec i s = answer .busy)

/-- The cells that a returning frame brings, and the outcome of a MINUTE. An ORDER of a PRESENT room station joins the tail of
the inbound queue. A JOIN is given its number: the record becomes JOINING with the JOIN's identity and capabilities, and
NUMBER is offered; or it is refused, as a duplicate or with the table full, and NUMBER 0 is offered. A PACE of a PRESENT
recording station adds its credits up to 32, and with a record waiting the head is offered; any other PACE adds none. A
consumed MINUTE removes the head record; a missed one leaves the queue and gives its credit back unless forfeit; then the
head is offered again if it can be. (That bits of the capabilities without a meaning are ignored is log 18.) -/
def Obligations.OrderCellJoinsInboundQueue : Prop :=
  (∀ (i : Instr) (h : OrderHead) (code : Nat) (f : Flight) (x : Slots) (s : State), mainRunning s = true →
    s.ring.flight = some f → f.cell = none → i.wellFormed = true → i.head = some h → i.orderCode = some code →
    h.source = 81 → h.part < partsOf code → present s 81 = true → s.orders.inbound.length < 4 →
    ∃ t, exec (.frameReturn f.number (cellBytes 0 81 0x24 h.tag i.orderBody) x) s = .next t ∧
      t.orders.inbound = s.orders.inbound ++ [i] ∧ (station t 81).missed = 0 ∧ t.hold = s.hold ∧ t.ctx = s.ctx) ∧
  (∀ (s : State) (f : Flight) (x : Slots) (src k n : Nat) (body : List Byte), mainRunning s = true →
    s.ring.flight = some f → (f.cell = none ∨ f.cell = some (.station .assign)) → src < 256 → body.length = 8 →
    u8 body 6 = k → k ≤ 3 →
    ((station s src).state = .vacant ∨ (station s src).state = .halted ∨ (station s src).state = .bypassed) →
    let id : Identity := identityAt body 0
    let caps : Caps := { screen := (body.getD 7 0).getLsbD 0, content := (body.getD 7 0).getLsbD 1 }
    let known (m : Nat) : Prop := (station s m).identity = some id
    let free (m : Nat) : Prop := (station s m).state = .vacant ∧ (station s m).identity = none
    let lowest (p : Nat → Prop) : Prop := 1 ≤ n ∧ n ≤ 80 ∧ p n ∧ ∀ m, 1 ≤ m → m < n → ¬ p m
    let given : Prop := if k = 0 then lowest known ∨ ((∀ m, 1 ≤ m → m ≤ 80 → ¬ known m) ∧ lowest free) else n = 80 + k
    let full : Prop := k = 0 ∧ ∀ m, 1 ≤ m → m ≤ 80 → ¬ known m ∧ ¬ free m
    let answer (t : State) : Prop := exec (.frameReturn f.number (cellBytes 0 src 0x21 0 body) x) s = .next t
    let taken : Prop := (station s n).state = .vacant ∨ (station s n).state = .joining ∨ (station s n).state = .silent ∨
      ((station s n).state = .present ∧ known n)
    (given → taken →
      ∃ t, answer t ∧ .number id n ∈ t.sched.class3 ∧ t.hold = s.hold ∧ t.ctx = s.ctx ∧
        station t n = { station s n with identity := some id, caps := if k = 0 then some caps else none, missed := 0,
                                         state := .joining } ∧
        (∀ m, m ≠ n → station t m = station s m) ∧
        ((station s n).state ≠ .joining →
          (noticeAt t 7).pending = true ∧ (noticeAt t 7).event = 1 ∧ (noticeAt t 7).value = n)) ∧
    (given → ¬ taken →
      ∃ t, answer t ∧ .number id 0 ∈ t.sched.class3 ∧ t.stn = s.stn ∧ t.hold = s.hold ∧ t.ctx = s.ctx ∧
        (noticeAt t 7).pending = true ∧ (noticeAt t 7).event = 2 ∧ (noticeAt t 7).value = n) ∧
    (full →
      ∃ t, answer t ∧ .number id 0 ∈ t.sched.class3 ∧ t.stn = s.stn ∧ t.hold = s.hold ∧ t.ctx = s.ctx ∧
        (noticeAt t 7).pending = true ∧ (noticeAt t 7).event = 3 ∧ (noticeAt t 7).value = 0)) ∧
  (∀ (s : State) (f : Flight) (x : Slots) (src : Nat) (body : List Byte), mainRunning s = true →
    s.ring.flight = some f → f.cell = none → src < 256 → body.length ≤ 32 →
    ∃ t, exec (.frameReturn f.number (cellBytes 0 src 0x25 0 body) x) s = .next t ∧
      (src ≠ 82 ∨ present s 82 = false ∨ body.length ≠ 1 → t.minutes = s.minutes) ∧
      (∀ b, src = 82 → present s 82 = true → body = [b] →
        let credits := min 32 (s.minutes.credits + b.toNat)
        (s.minutes.flight ≠ none ∨ s.minutes.queue = [] ∨ credits = 0 →
          t.minutes = { s.minutes with credits := credits }) ∧
        (∀ r rest, s.minutes.flight = none → s.minutes.queue = r :: rest → 0 < credits →
          t.minutes = { s.minutes with credits := credits - 1, flight := some false } ∧ t.sched.minute = some r))) ∧
  (∀ (s : State) (f : Flight) (x : Slots) (r : MinuteRecord), mainRunning s = true → s.ring.flight = some f →
    f.cell = some (.minute r) →
    (∃ t, exec (.frameReturn f.number [] x) s = .next t ∧ s.minutes.queue.tail <+: t.minutes.queue ∧
      (s.queue = [] → s.share.waiting = [] →
        (s.minutes.queue.tail = [] ∨ s.minutes.credits = 0 ∨ present s 82 = false →
          t.minutes = { s.minutes with queue := s.minutes.queue.tail, flight := none }) ∧
        (∀ r' rest, s.minutes.queue.tail = r' :: rest → 0 < s.minutes.credits → present s 82 = true →
          t.minutes = { s.minutes with queue := r' :: rest, credits := s.minutes.credits - 1, flight := some false } ∧
          t.sched.minute = some r'))) ∧
    (∃ t, exec (.frameReturn f.number (OutCell.minute r).bytes x) s = .next t ∧ t.minutes.queue = s.minutes.queue ∧
      let credits := if s.minutes.flight = some false then min 32 (s.minutes.credits + 1) else s.minutes.credits
      (s.minutes.queue = [] ∨ credits = 0 ∨ present s 82 = false →
        t.minutes = { s.minutes with credits := credits, flight := none }) ∧
      (∀ r' rest, s.minutes.queue = r' :: rest → 0 < credits → present s 82 = true →
        t.minutes = { s.minutes with credits := credits - 1, flight := some false } ∧ t.sched.minute = some r')))

/-! ### Frames -/

/-- A frame whose number is a multiple of 4 goes out with an open lane, with silence in the slots that the mix engine only
reads, at the cadence in force, the first after a restart at IDLE; nothing changes but the frame and what the
presentation arbiter does. (That it acts when a step's effects are complete is the model's reading, log 8; the flag that
no frame has gone out yet is the model's, log 43.) -/
def Obligations.FrameEmitLeavesOpenLane : Prop :=
  ∀ s : State, mainRunning s = true → s.ring.flight = none → s.ring.nextFrame % 4 = 0 →
    let cadence : Cadence := if s.ring.fresh = true then .idle else s.sup.cadence
    exec .frameEmit s = .next (settle { offerPresentation s with
      ring := { s.ring with
        nextFrame := (s.ring.nextFrame + 1) % 4096, fresh := false,
        flight := some
          { number := s.ring.nextFrame, cell := none,
            up := { mics := Vector.replicate 8 0, share := 0, farIn := 0 },
            down := if cadence = .full then s.mix.formed.getD silentBuses else silentBuses,
            cadence := cadence, clock := s.mix.inUse } },
      mix := { s.mix with formed := none } }) ∧
    (s.sched.presentation ≠ none → offerPresentation s = s)

/-- Any other frame carries the scheduler's cell: a marked cell first, built from the owner's state as it is now; then
class 2 and class 3 in the order of offer; and in class 4 the presentation cell, as it was built, and the MINUTE by
turns. The arbiter acts before the placement, where what is ready has not been offered yet, and after it. A presentation
cell that waits is not chosen again; with none waiting, its first choice is the lamp of the lowest PRESENT seat that is
to be sent one. (That it acts when a step's effects are complete is the model's reading, log 8.) -/
def Obligations.FrameEmitPlacesByClass : Prop :=
  ∀ s : State, mainRunning s = true → s.ring.flight = none → s.ring.nextFrame % 4 ≠ 0 →
    let u := offerPresentation s
    (∀ c, s.sched.presentation = some c → u = s) ∧
    (∀ n, s.sched.presentation = none → 1 ≤ n → n ≤ 80 → present s n = true →
      (panelOf s n).lampDirty = true → (panelOf s n).lampSent ≠ some (lampNow s n) →
      (∀ m, 1 ≤ m → m < n → present s m = false ∨ (panelOf s m).lampDirty = false) →
      u.sched.presentation = some (.lamp n (lampNow s n)) ∧ (panelOf u n).lampDirty = false) ∧
    ∃ t f, exec .frameEmit s = .next (settle t) ∧ (settle t).ring = t.ring ∧ t.ring.flight = some f ∧
      f.number = s.ring.nextFrame ∧
      (∀ m rest, u.sched.class1 = m :: rest →
        f.cell = some (buildMark s m) ∧ t.sched = { u.sched with class1 := rest }) ∧
      (∀ a rest, u.sched.class1 = [] → u.sched.class2 = .answer a :: rest →
        f.cell = some (.answer a) ∧ t.sched = { u.sched with class2 := rest }) ∧
      (∀ rest, u.sched.class1 = [] → u.sched.class2 = .alert :: rest →
        f.cell = some (.alert (highestCause u)) ∧ t.sched = { u.sched with class2 := rest } ∧
        t.orders = { u.orders with alert := .inFlight }) ∧
      (∀ c rest, u.sched.class1 = [] → u.sched.class2 = [] → u.sched.class3 = c :: rest →
        f.cell = some (.station c) ∧ t.sched = { u.sched with class3 := rest }) ∧
      (u.sched.class1 = [] → u.sched.class2 = [] → u.sched.class3 = [] →
        (∀ r, u.sched.minute = some r → u.sched.presentation = none ∨ u.sched.last4 = .presentation →
          f.cell = some (.minute r) ∧ t.sched = { u.sched with minute := none, last4 := .minutes }) ∧
        (∀ c, u.sched.presentation = some c → u.sched.minute = none ∨ u.sched.last4 = .minutes →
          f.cell = some c ∧ t.sched = { u.sched with presentation := none, last4 := .presentation }) ∧
        (u.sched.presentation = none → u.sched.minute = none → f.cell = none ∧ t.sched = u.sched))

/-- A frame that returns with an empty lane and no cell of the controller's sets the consecutive-failure count to 0 and
changes nothing else at IDLE cadence, before the arbiter acts; at FULL cadence its samples form the buses. A frame that comes back late, or under
another number, is discarded unexamined. -/
def Obligations.FrameReturnIsCountedOrDiscarded : Prop :=
  ∀ (s : State) (number : Nat) (lane : List Byte) (x : Slots), mainRunning s = true →
    ((∀ f, s.ring.flight = some f → f.number ≠ number) →
      exec (.frameReturn number lane x) s = .next (settle s)) ∧
    (∀ f, s.ring.flight = some f → f.number = number → f.cell = none → s.ring.broken = false →
      f.cadence = .idle →
      exec (.frameReturn number [] x) s =
        .next (settle { s with ring := { s.ring with flight := none, failures := 0 } })) ∧
    (∀ f, s.ring.flight = some f → f.number = number → f.cell = none → s.ring.broken = false →
      f.cadence = .full →
      ∃ clips, exec (.frameReturn number [] x) s = .next (settle { s with
        ring := { s.ring with flight := none, failures := 0 },
        mix := { s.mix with
          clips := clips,
          formed := some { floor := clampSample (busSum s 0 x), chair := clampSample (busSum s 1 x),
                           record := if gateOpen s 2 then clampSample (busSum s 2 x) else 0,
                           far := if gateOpen s 3 then clampSample (busSum s 3 x) else 0 } } }) ∧
        ∀ bus < 4, (clips[bus]?).getD 0 =
          if gateOpen s bus = true ∧ (busSum s bus x < -8388608 ∨ 8388607 < busSum s bus x)
          then min 65535 (clipCount s bus + 1) else clipCount s bus)

/-- A bad cell is discarded and counted, the count staying at 65,535, and the cell of the controller's that shared its
lane has missed: a MIC cell of a PRESENT seat is marked again. (That a cell whose length byte does not fit the lane is bad
is the model's choice, log 16.) -/
def Obligations.BadCellIsCountedAndMisses : Prop :=
  ∀ (s : State) (f : Flight) (lane : List Byte) (x : Slots), mainRunning s = true → s.ring.flight = some f →
    s.ring.broken = false → f.cadence = .idle → lane ≠ [] → parseCell lane = none →
    (f.cell = none →
      exec (.frameReturn f.number lane x) s = .next (settle { s with
        ring := { s.ring with flight := none, failures := 0, badCells := min 65535 (s.ring.badCells + 1) } })) ∧
    (∀ n held, f.cell = some (.mic n held) → (OutCell.mic n held).bytes ≠ lane → present s n = true →
      .mic n ∉ s.sched.class1 →
      exec (.frameReturn f.number lane x) s = .next (settle { s with
        ring := { s.ring with flight := none, failures := 0, badCells := min 65535 (s.ring.badCells + 1) },
        sched := { s.sched with class1 := s.sched.class1 ++ [.mic n] } }))

/-- An ECHO that answers the PROBE of a JOINING, SILENT or PRESENT record sets the missed count to 0, makes the record
PRESENT and stores the unit status; a JOINING or SILENT one raises STATION notice, presence change, with the number, and
only a round that ends short with that PROBE puts "short" in its place. (That the unit status byte's other bits are
ignored is the model's reading, log 18.) -/
def Obligations.EchoMakesStationPresent : Prop :=
  ∀ (s : State) (f : Flight) (n : Nat) (b : Byte) (x : Slots), mainRunning s = true → s.ring.flight = some f →
    f.cell = some (.station (.probe n)) → 1 ≤ n → n ≤ 83 →
    ((station s n).state = .joining ∨ (station s n).state = .silent ∨ (station s n).state = .present) →
    ∃ t, exec (.frameReturn f.number (cellBytes 0 n 0x22 0 [b]) x) s = .next t ∧
      station t n = { station s n with
        missed := 0, state := .present, echo := some { mic := b.getLsbD 0, content := b.getLsbD 1 } } ∧
      ((station s n).state ≠ .present → (noticeAt t 7).pending = true ∧
        ((noticeAt t 7).event = 1 ∧ (noticeAt t 7).value = n ∨
          s.stn.short = false ∧ t.stn.short = true ∧ (noticeAt t 7).event = 4))

/-- The three ways a PRESENT seat leaves by command: a PROBE unanswered at the missed limit makes it SILENT, HALT SEAT makes it
HALTED with a halt time (whose value is free, log 5), BYPASS makes it BYPASSED. It departs: it holds no channel and no
lane, waits in no list and holds no priority. A miss below the limit is only counted. -/
def Obligations.LeavingPresentDeparts : Prop :=
  ∀ (s : State) (h : OrderHead) (n : Nat), FloorTables s →
    let gone (t : State) : Prop :=
      micOpen t n = false ∧ n ∉ t.queue ∧ n ∉ t.share.waiting ∧ isHolder t n = false ∧ n ∉ t.chan.holders
    (∀ (f : Flight) (x : Slots), mainRunning s = true → 1 ≤ n → n ≤ 80 → present s n = true →
      s.ring.flight = some f → f.cell = some (.station (.probe n)) →
      ∃ t, exec (.frameReturn f.number (OutCell.station (.probe n)).bytes x) s = .next t ∧
        (station t n).missed = min 7 ((station s n).missed + 1) ∧
        (min 7 ((station s n).missed + 1) < s.stn.plan.limit → present t n = true) ∧
        (s.stn.plan.limit ≤ min 7 ((station s n).missed + 1) → (station t n).state = .silent ∧ gone t)) ∧
    (Ready (.haltSeat h n) s →
      (n = 0 ∨ 80 < n → exec (.haltSeat h n) s = .next (answered h 0x12 .range [] s)) ∧
      (1 ≤ n → n ≤ 80 → (station s n).state = .halted →
        exec (.haltSeat h n) s = .next (answered h 0x12 .done [] s)) ∧
      (1 ≤ n → n ≤ 80 → (station s n).state ≠ .halted → (station s n).state ≠ .present →
        exec (.haltSeat h n) s = .next (answered h 0x12 .absent [] s)) ∧
      (1 ≤ n → n ≤ 80 → present s n = true →
        ∃ t time, exec (.haltSeat h n) s = .next t ∧ gone t ∧ .halt n 0 ∈ t.sched.class3 ∧
          station t n = { station s n with state := .halted, haltTime := some time, haltOver := false,
                                           heldResume := false } ∧
          (∀ m, m ≠ n → station t m = station s m) ∧ t.hold = s.hold ∧ t.ctx = s.ctx)) ∧
    (Ready (.bypass h n) s →
      (n = 0 ∨ 83 < n → exec (.bypass h n) s = .next (answered h 0x14 .range [] s)) ∧
      (1 ≤ n → n ≤ 83 → present s n = false → exec (.bypass h n) s = .next (answered h 0x14 .absent [] s)) ∧
      (1 ≤ n → n ≤ 83 → present s n = true →
        ∃ t, exec (.bypass h n) s = .next t ∧ (n ≤ 80 → gone t) ∧ .bypass n 0 ∈ t.sched.class3 ∧
          station t n = { station s n with state := .bypassed } ∧ (n = 82 → t.minutes.credits = 0) ∧
          (∀ m, m ≠ n → station t m = station s m) ∧ t.hold = s.hold ∧ t.ctx = s.ctx))

/-- A frame that fails adds one to the consecutive-failure count and, without a cell and at IDLE cadence, changes nothing
else. The 32nd in a row breaks the ring: BROKEN, RING notice "broken", no station PRESENT or JOINING. The first frame that
returns while it is BROKEN restores it: UP, RING notice "restored". -/
def Obligations.FailuresBreakRingAndReturnRestores : Prop :=
  ∀ (s : State) (f : Flight), mainRunning s = true → s.ring.flight = some f →
    (f.cell = none → f.cadence = .idle → s.ring.failures < 31 →
      exec .frameFail s =
        .next (settle { s with ring := { s.ring with flight := none, failures := s.ring.failures + 1 } })) ∧
    (s.ring.failures = 31 → s.ring.broken = false →
      ∃ t, exec .frameFail s = .next t ∧ t.ring.broken = true ∧ t.ring.failures = 32 ∧
        (noticeAt t 2).pending = true ∧ (noticeAt t 2).event = 1 ∧
        ∀ n, 1 ≤ n → n ≤ 83 → (station t n).state ≠ .present ∧ (station t n).state ≠ .joining) ∧
    (∀ lane x, s.ring.broken = true →
      ∃ t, exec (.frameReturn f.number lane x) s = .next t ∧ t.ring.broken = false ∧ t.ring.failures = 0 ∧
        t.ring.flight = none ∧ (noticeAt t 2).pending = true ∧ (noticeAt t 2).event = 2)

/-- A probe round offers one ASSIGN, unless one waits, and then a PROBE to each JOINING, PRESENT and SILENT record that
has none waiting, in ascending number; the probe timer takes the probe period in force. With a PROBE offered, nothing
else changes. -/
def Obligations.ProbeRoundOffersAssignAndProbes : Prop :=
  ∀ s : State, mainRunning s = true →
    let probes := (List.range' 1 83).filter fun n =>
      (decide ((station s n).state = .joining) || decide ((station s n).state = .present) ||
        decide ((station s n).state = .silent)) && !(s.sched.class3.contains (.probe n))
    ∃ t, exec .probeRound s = .next t ∧
      t.sched.class3 = s.sched.class3 ++ (if s.sched.class3.contains .assign then [] else [.assign]) ++
        probes.map .probe ∧
      t.stn.period = s.stn.plan.period ∧ t.stn.records = s.stn.records ∧
      (probes ≠ [] →
        t = settle { s with
          sched := { s.sched with class3 := t.sched.class3 },
          stn := { s.stn with period := s.stn.plan.period,
                              rounds := s.stn.rounds ++ [{ out := probes, live := sessionLive s }] } })

/-! ### Timers and the clock -/

/-- 100 ms after a HALT SEAT the interval is complete, and a held RESUME is offered; for a record not HALTED, or whose
interval is complete already, it does not occur. (That it then changes nothing is the model's reading of an event that
does not occur, log 38.) -/
def Obligations.HaltIntervalReleasesHeldResume : Prop :=
  ∀ (s : State) (n : Nat), mainRunning s = true → 1 ≤ n → n ≤ 83 →
    let passed := { s with stn := { s.stn with
      records := s.stn.records.setIfInBounds (n - 1) { station s n with haltOver := true, heldResume := false } } }
    ((station s n).state = .halted → (station s n).haltOver = false →
      exec (.haltIntervalExpiry n) s = .next (settle
        (if (station s n).heldResume
         then { passed with sched := { s.sched with class3 := s.sched.class3 ++ [.resume n 0] } } else passed))) ∧
    ((station s n).state ≠ .halted ∨ (station s n).haltOver = true →
      exec (.haltIntervalExpiry n) s = .next (settle s))

/-- The expiry of the grace timer ends the share: with no seat waiting the lane is free, the timer stops, LANE marks stand
for the seat and the bridge, and a SHARE END record with reason GRACE is admitted when the minutes unit logs the seat,
has room and has no drops to report. -/
def Obligations.GraceExpiryEndsShare : Prop :=
  ∀ (s : State) (h : Holder) (g : Nat), mainRunning s = true → s.share.holder = some h → s.share.grace = some g →
    s.share.waiting = [] →
    ∃ t, exec .graceExpiry s = .next t ∧ FloorFrame s t ∧ t.chan = s.chan ∧ t.queue = s.queue ∧
      t.share = { s.share with holder := none, grace := none } ∧
      .laneSeat h.seat ∈ t.sched.class1 ∧ .laneBridge ∈ t.sched.class1 ∧
      (s.minutes.rangeA = { enabled := true, first := 1, last := 80, mask := 7 } → 1 ≤ h.seat → h.seat ≤ 80 →
        s.minutes.queue.length < 32 → s.minutes.drop = 0 → gradeNow s < 3 →
        t.minutes.queue = s.minutes.queue ++
          [{ seq := s.minutes.nextSeq, time := s.hold.tableTime, kind := .shareEnd, seat := some h.seat,
             channel := none, reason := .grace, duration := none, detail := none }] ∧
        t.minutes.nextSeq = (s.minutes.nextSeq + 1) % 65536)

/-- Table time counts a second in RUN and in HOLD, holds at 4,294,967,295, and stands still in OFF. In HOLD, and in RUN
with the reset line low, nothing else happens; in RUN with no entry in the table and no session, only the speak timers
go on. -/
def Obligations.TickCountsTableTime : Prop :=
  ∀ s : State,
    let counted := { s with hold := { s.hold with tableTime := min 4294967295 (s.hold.tableTime + 1) } }
    (s.supply = .hold → exec .tableTimeTick s = .next counted) ∧
    (s.supply = .off → exec .tableTimeTick s = .next s) ∧
    (s.supply = .run → s.nrstLow = true → exec .tableTimeTick s = .next counted) ∧
    (s.supply = .run → s.nrstLow = false →
      ∃ t, exec .tableTimeTick s = .next t ∧ t.hold.tableTime = min 4294967295 (s.hold.tableTime + 1)) ∧
    (s.supply = .run → s.nrstLow = false → s.hold.bookings = [] → s.ctx = none → channels s = [] →
      exec .tableTimeTick s = .next (settle counted))

/-- At an increment that ends no session, starts none and warns none, every running speak timer loses a second; one that
comes to its warn lead sets warned, and one that comes to 0 falls due. A timer that is suppressed or at 0 stands. (The
due flag stands for an expiry still to be handled: log 10.) -/
def Obligations.TickRunsSpeakTimers : Prop :=
  ∀ (s : State) (b : Booking) (rest : List Booking) (c : Session), mainRunning s = true → s.ctx = some c →
    s.hold.bookings = b :: rest → b.live = true → s.hold.tableTime + 1 < b.endAt →
    s.hold.tableTime < 4294967295 → c.phase = .live → s.hold.tableTime + 1 < c.warnAt →
    ∃ t, exec .tableTimeTick s = .next t ∧ t.ctx = s.ctx ∧ t.queue = s.queue ∧ t.minutes = s.minutes ∧
      t.share = s.share ∧ t.chan.order = s.chan.order ∧
      ∀ k < 8, channelAt t k = (channelAt s k).map fun e =>
        match e.timer with
        | none => e
        | some m =>
            if 0 < m.remaining ∧ e.suppressed = false then
              { e with timer := some { m with remaining := m.remaining - 1,
                                              due := m.due || decide (m.remaining - 1 = 0) },
                       warned := e.warned || decide (m.remaining - 1 ≤ m.lead) }
            else e

/-- An increment acts on the first entry. A PENDING one whose start is reached becomes LIVE, and its session starts with the
resumed flag clear and the entry's plan, profile, grade and end; SESSION notice stands. A LIVE one whose end is reached,
no entry following it, is ended and removed: no context, no queue, every channel free, the lane free, no priority, every
panel BLANK before the arbiter acts, whose next piece of a running PAGE job sets its own page (R150). -/
def Obligations.TickStartsAndEndsSessions : Prop :=
  ∀ (s : State) (b : Booking) (rest : List Booking), mainRunning s = true → s.hold.bookings = b :: rest →
    s.hold.tableTime < 4294967295 →
    (s.ctx = none → b.live = false → b.startAt ≤ s.hold.tableTime + 1 →
      ∃ t c, exec .tableTimeTick s = .next t ∧ t.ctx = some c ∧ c.id = b.id ∧ c.plan = b.plan ∧
        c.profile = b.profile ∧ c.grade = b.grade ∧ c.endAt = b.endAt ∧ c.resumed = false ∧ c.phase ≠ .ending ∧
        t.hold.bookings = { b with live := true } :: rest ∧ t.sup.cadence = .full ∧ t.stn.short = false ∧
        (noticeAt t 6).pending = true) ∧
    (s.ctx ≠ none → b.live = true → b.endAt ≤ s.hold.tableTime + 1 → rest = [] → FloorTables s →
      ∃ u t, exec .tableTimeTick s = .next t ∧ t = settle u ∧ t.ctx = none ∧ t.hold.bookings = [] ∧ t.queue = [] ∧
        channels t = [] ∧ t.chan.order = [] ∧ t.chan.holders = [] ∧ t.chan.holdMode = none ∧
        t.share.holder = none ∧ t.share.waiting = [] ∧ t.share.grace = none ∧ t.sup.timer = true ∧
        t.sup.cadence = .full ∧ ∀ n, 1 ≤ n → n ≤ 80 → (panelOf u n).page = .blank)

/-- A speak timer that has come to 0: with limit action FLAG, FLOOR notice "limit" is raised with the seat and the
microphone stays open; with CLOSE, and no seat queued, the microphone is closed and its channel is free. (The due flag
is the model's, log 10.) -/
def Obligations.SpeakLimitFlagsOrCloses : Prop :=
  ∀ (s : State) (n k : Nat) (e : Channel) (m : SpeakTimer), mainRunning s = true → channelOf s n = some k →
    channelAt s k = some e → e.timer = some m → m.due = true →
    (m.action = .flag → (noticeAt s 10).pending = false →
      ∃ t, exec (.speakLimitExpiry n) s = .next t ∧ FloorFrame s t ∧
        channelAt t k = some { e with timer := some { m with due := false } } ∧ t.chan.order = s.chan.order ∧
        noticeAt t 10 = { pending := true, event := 2, value := n, count := 1 } ∧ t.minutes = s.minutes ∧
        t.queue = s.queue ∧ t.share = s.share) ∧
    (m.action = .close → s.queue = [] → FloorTables s →
      ∃ t, exec (.speakLimitExpiry n) s = .next t ∧ FloorFrame s t ∧ channelAt t k = none ∧ micOpen t n = false ∧
        t.chan.order = s.chan.order.erase k ∧ .mic n ∈ t.sched.class1)

/-- The expiries of the flash, of the list refresh timer and of the cadence request timer, in full but for what the arbiter
then offers: with no cell waiting, after the flash of a PRESENT seat below which no PRESENT seat is lamp-dirty,
that is the seat's lamp, built as it is now. (That the arbiter acts when the step's effects are complete is the model's
reading, log 8; that it sets to no the flags that no cell can serve, with nothing to send too, is its choice, log 50.) -/
def Obligations.PanelAndCadenceTimers : Prop :=
  ∀ (s : State) (n : Nat), mainRunning s = true →
    (1 ≤ n → n ≤ 80 → (panelOf s n).flash = true →
      exec (.flashExpiry n) s = .next (settle { s with panel := { s.panel with
        records := s.panel.records.setIfInBounds (n - 1)
          { panelOf s n with flash := false, lampDirty := true } } })) ∧
    (1 ≤ n → n ≤ 80 → (panelOf s n).flash = true → present s n = true → s.sched.presentation = none →
      (∀ m, 1 ≤ m → m < n → present s m = false ∨ (panelOf s m).lampDirty = false) →
      let lamp : LampContent :=
        { lamp := computedLamp s n, call := (station s n).call, chairBus := chairSeat s n }
      (panelOf s n).lampSent ≠ some lamp →
      ∃ t, exec (.flashExpiry n) s = .next t ∧ t.sched.presentation = some (.lamp n lamp) ∧
        (panelOf t n).lampDirty = false ∧ (panelOf t n).flash = false) ∧
    (s.panel.refresh = true →
      exec .listRefreshExpiry s = .next (settle { s with panel := { s.panel with
        records := s.panel.records.map fun r => if r.page = .speakers then { r with listDirty := true } else r } })) ∧
    (s.sup.timer = true →
      exec .cadenceTimerExpiry s = .next (settle { s with sup := { s.sup with
        timer := false,
        cadence := if s.ctx.isSome = true ∨ s.stn.plan.idleAllowed = false then .full else .idle } }))

/-- EXTERNAL PRESENT sets the presence and nothing else. EXTERNAL LOSS clears it, and with the external clock in use it
also falls back to the internal clock, sets the clock fault and raises CLOCK notice "fallback". CLEAR CLOCK FAULT clears
a fault: with EXTERNAL selected only while the clock is present, and the external clock is then in use again. (That a clear fault is
answered DONE with the presence absent too is the model's reading, log 34.) -/
def Obligations.SampleClockFallsBackAndRecovers : Prop :=
  ∀ (s : State) (h : OrderHead), mainRunning s = true →
    exec .externalPresent s = .next (settle { s with mix := { s.mix with present := true } }) ∧
    (s.mix.inUse = .internal →
      exec .externalLoss s = .next (settle { s with mix := { s.mix with present := false } })) ∧
    (s.mix.inUse = .external →
      ∃ t, exec .externalLoss s = .next t ∧
        t.mix = { s.mix with inUse := .internal, fault := true, present := false } ∧
        (noticeAt t 4).pending = true ∧ (noticeAt t 4).event = 1 ∧ t.ring = s.ring ∧ t.ctx = s.ctx ∧ t.hold = s.hold) ∧
    (Ready (.clearClockFault h) s →
      (s.mix.fault = false → exec (.clearClockFault h) s = .next (answered h 0x97 .done [] s)) ∧
      (s.mix.fault = true → s.mix.selection = .internal → exec (.clearClockFault h) s =
        .next (answered h 0x97 .done [] { s with mix := { s.mix with fault := false } })) ∧
      (s.mix.fault = true → s.mix.selection = .external → s.mix.present = false →
        exec (.clearClockFault h) s = .next (answered h 0x97 .state [] s)) ∧
      (s.mix.fault = true → s.mix.selection = .external → s.mix.present = true →
        ∃ t, exec (.clearClockFault h) s = .next t ∧ t.mix = { s.mix with inUse := .external, fault := false } ∧
          (noticeAt t 4).pending = true ∧ (noticeAt t 4).event = 2 ∧ t.ring = s.ring ∧ t.hold = s.hold ∧
          t.ctx = s.ctx))

/-! ### Supplies and restarts -/

/-- MAINS LOSS leads to HOLD, which keeps the hold domain, when the backup is enabled and OK, and otherwise to OFF,
which loses it; the main domain's contents are lost either way. (That unpowered state reads as its cleared value is the
model's choice, log 22.) -/
def Obligations.MainsLossHoldsOrLosesAll : Prop :=
  ∀ s : State, s.supply = .run →
    ∃ t, exec .mainsLoss s = .next t ∧ t.ctx = none ∧ t.queue = [] ∧ t.ring.flight = none ∧ t.sup.restart = .absent ∧
      mainRunning t = false ∧
      (s.hold.backupEnable = true → s.sup.backup = .ok → t.supply = .hold ∧ t.hold = s.hold) ∧
      (s.hold.backupEnable = false ∨ s.sup.backup = .low → t.supply = .off ∧ t.hold = Hold.cold)

/-- With the reset line high, MAINS RETURN in OFF is a cold start, with nothing kept; in HOLD it is a supply return, which keeps the hold domain
and, with no booking in the table, leaves every main-domain block at its restart values. With a LIVE first entry
reconciliation resumes a session that contains now, with its grade reached and its end, and removes one whose end has
passed, with an END record of reason OUTAGE. (The reading of the backup cell is the command's operand, log 2.) -/
def Obligations.MainsReturnStartsThePart : Prop :=
  ∀ (s : State) (r : BackupCond), s.nrstLow = false →
    (s.supply = .off →
      exec (.mainsReturn r) s = .next { State.reset with
        sup := { backup := r, cadence := .idle, timer := false, restart := .absent },
        freeCount := s.freeCount, pending := s.pending }) ∧
    (s.supply = .hold → s.hold.bookings = [] →
      exec (.mainsReturn r) s = .next { State.reset with
        hold := s.hold, orders := { State.reset.orders with starts := [.supplyReturn] },
        sup := { backup := r, cadence := .idle, timer := false, restart := .absent },
        freeCount := s.freeCount, pending := s.pending }) ∧
    (∀ b, s.supply = .hold → s.hold.bookings = [b] → b.live = true →
        (b.startAt ≤ s.hold.tableTime → s.hold.tableTime < b.endAt →
          ∃ t c, exec (.mainsReturn r) s = .next t ∧ t.ctx = some c ∧ c.id = b.id ∧ c.grade = b.grade ∧
            c.endAt = b.endAt ∧ c.plan = b.plan ∧ c.profile = b.profile ∧ c.resumed = true ∧ c.phase ≠ .ending ∧
            t.hold.bookings = [b] ∧ t.sup.cadence = .full) ∧
        (b.endAt ≤ s.hold.tableTime →
          ∃ t, exec (.mainsReturn r) s = .next t ∧ t.ctx = none ∧ t.hold.bookings = [] ∧
            t.minutes.queue = [{ seq := 0, time := s.hold.tableTime, kind := .endd, seat := none, channel := none,
                                 reason := .outage, duration := none, detail := some (.endd b.id) }] ∧
            noticeAt t 6 = { pending := true, event := 4, value := b.id, count := 1 }))

/-- BACKUP LOW and BACKUP OK in RUN set the backup condition and raise BACKUP notice; with the reset line low they raise
nothing; in HOLD a BACKUP LOW ends the hold. ENABLE BACKUP is taken with the condition OK alone, DISABLE BACKUP always.
(That a lost hold domain reads as its cold-start values is the model's choice, log 22.) -/
def Obligations.BackupEventsAndOrders : Prop :=
  ∀ (s : State) (h : OrderHead),
    (s.supply = .run → s.nrstLow = false →
      ∃ t u, exec .backupLow s = .next t ∧ exec .backupOk s = .next u ∧
        t.sup = { s.sup with backup := .low } ∧ u.sup = { s.sup with backup := .ok } ∧
        (noticeAt t 5).pending = true ∧ (noticeAt t 5).event = 1 ∧ (noticeAt u 5).pending = true ∧
        (noticeAt u 5).event = 2 ∧ t.hold = s.hold ∧ u.hold = s.hold ∧ t.ctx = s.ctx ∧ u.ctx = s.ctx) ∧
    (s.supply = .run → s.nrstLow = true →
      exec .backupLow s = .next { s with sup := { s.sup with backup := .low } } ∧
      exec .backupOk s = .next { s with sup := { s.sup with backup := .ok } }) ∧
    (s.supply = .hold →
      exec .backupLow s = .next { s with supply := .off, hold := Hold.cold } ∧ exec .backupOk s = .next s) ∧
    (Ready (.enableBackup h) s → exec (.enableBackup h) s = .next
      (if s.sup.backup = .ok then answered h 0x95 .done [] { s with hold := { s.hold with backupEnable := true } }
       else answered h 0x95 .state [] s)) ∧
    (Ready (.disableBackup h) s → exec (.disableBackup h) s =
      .next (answered h 0x96 .done [] { s with hold := { s.hold with backupEnable := false } }))

/-- The reset line low in RUN holds the main domain in reset, keeping the hold domain and a pending restart; its release
makes a warm reset whose start causes are RESET LINE and, with a restart pending, RESTART ORDER. (That state in reset
reads as its cleared value is log 22; the reading at the release is the command's operand, log 2.) -/
def Obligations.ResetLineHoldsThenResets : Prop :=
  ∀ (s : State) (r : BackupCond), s.supply = .run →
    (s.nrstLow = false →
      ∃ t, exec .resetLineLow s = .next t ∧ t.nrstLow = true ∧ mainRunning t = false ∧ t.hold = s.hold ∧
        t.ctx = none ∧ t.ring = Ring.cleared ∧ t.sup.restart = s.sup.restart) ∧
    (s.nrstLow = true → s.awaited = none → s.hold.bookings = [] →
      exec (.resetLineRelease r) s = .next { State.reset with
        hold := s.hold,
        orders := { State.reset.orders with
          starts := if s.sup.restart = .absent then [.resetLine] else [.resetLine, .restartOrder] },
        sup := { backup := r, cadence := .idle, timer := false, restart := .absent },
        freeCount := s.freeCount, pending := s.pending })

/-- RESTART is always answered DONE and becomes pending; it is carried out, as a warm reset, only once the frame of its
ANSWER has come back: the return of that frame, whatever its lane holds, or its failure makes it ready. (The reading is the command's operand, log 2; a RESTART_EXECUTE before that changes nothing, log
38.) -/
def Obligations.RestartWaitsForItsAnswer : Prop :=
  ∀ (h : OrderHead) (r : BackupCond) (s : State),
    (Ready (.restart h) s →
      exec (.restart h) s = .next (answered h 0x98 .done []
        { s with sup := { s.sup with restart := if s.sup.restart = .ready then .ready else .answering } })) ∧
    (∀ f a, mainRunning s = true → s.ring.flight = some f → f.cell = some (.answer a) → a.code = 0x98 →
      a.status = .done → s.sup.restart = .answering →
      (∀ lane x, ∃ t, exec (.frameReturn f.number lane x) s = .next t ∧ t.sup.restart = .ready) ∧
      (∃ t, exec .frameFail s = .next t ∧ t.sup.restart = .ready)) ∧
    (mainRunning s = true → s.sup.restart ≠ .ready → exec (.restartExecute r) s = .next (settle s)) ∧
    (mainRunning s = true → s.sup.restart = .ready → s.hold.bookings = [] →
      exec (.restartExecute r) s = .next { State.reset with
        hold := s.hold, orders := { State.reset.orders with starts := [.restartOrder] },
        sup := { backup := r, cadence := .idle, timer := false, restart := .absent },
        freeCount := s.freeCount, pending := s.pending })

/-! ### Orders that read -/

/-- READ CLOCK, READ WALK-IN, READ CHANNELS and READ LOG are answered DONE in every state and change nothing; READ STATUS
sets the bad-cell count to 0 and changes nothing else. (What is ready and not yet offered the arbiter then offers, as it
does after every command.) (That READ CHANNELS gives the holding set in the order the holders
joined, and a speak timer that is absent as zeros, is the model's choice, logs 46 and 47.) -/
def Obligations.WholeReadsAnswerAndChangeNothing : Prop :=
  ∀ (h : OrderHead) (s : State),
    (Ready (.readClock h) s → exec (.readClock h) s =
      .next (answered h 0x31 .done (bytes4 s.hold.tableTime ++ [flagByte s.hold.clockValid]) s)) ∧
    (Ready (.readWalkIn h) s → exec (.readWalkIn h) s = .next (answered h 0x23 .done
      ([flagByte s.hold.walkIn.allowed, byte s.hold.walkIn.plan] ++ s.hold.walkIn.profile.raw.bytes ++
        [byte s.hold.walkIn.length, byte s.hold.walkIn.gap]) s)) ∧
    (Ready (.readChannels h) s → exec (.readChannels h) s = .next (answered h 0x57 .done
      (((List.range 8).map fun k => channelBytes (channelAt s k)).flatten ++ [byte s.chan.order.length] ++
        (List.range 8).map (fun i => byte (s.chan.order.getD i 0)) ++
        [byte s.chan.holders.length, byte (s.chan.holders.getD 0 0), byte (s.chan.holders.getD 1 0),
         byte (holdModeCode s.chan.holdMode)]) s)) ∧
    (Ready (.readLog h) s → exec (.readLog h) s = .next (answered h 0x82 .done
      ([byte (32 - s.minutes.queue.length), byte s.minutes.queue.length] ++ bytes2 s.minutes.drop ++
        [byte s.minutes.credits, flagByte s.minutes.flight.isSome, byte (modeCode s),
         byte (openCount s + (if s.share.holder.isSome = true then 1 else 0) + 1)] ++
        bytes2 s.minutes.nextSeq ++ s.minutes.rangeA.bytes ++ s.minutes.rangeB.bytes) s)) ∧
    (Ready (.readStatus h) s → exec (.readStatus h) s = .next (answered h 0x90 .done
      ([byte s.supply.code, flagByte s.hold.backupEnable, byte (backupCode s.sup.backup), byte s.sup.cadence.code,
        flagByte s.ring.broken, flagByte s.mix.fault, flagByte s.stn.locked, flagByte s.guardLock,
        flagByte s.hold.guardSet, flagByte s.hold.clockValid] ++
        bytes2 s.ring.badCells ++ bytes2 (causeSet (causePending s)) ++ bytes2 s.orders.mask.toNat)
      { s with ring := { s.ring with badCells := 0 } }))

/-- The reads that name a number answer RANGE outside its range and DONE within it, READ SESSION and READ QUEUE answer NO
SESSION with no session LIVE, and none changes anything. (What is ready and not yet offered the arbiter then offers, as
it does after every command. That an absent field's bytes are 0, and that chairs loaded as 0 and n read back as n and 0,
are the model's choices, logs 47 and 45.) -/
def Obligations.NamedReadsAnswerAndChangeNothing : Prop :=
  ∀ (h : OrderHead) (n : Nat) (s : State),
    (Ready (.readStation h n) s → exec (.readStation h n) s = .next
      (if 1 ≤ n ∧ n ≤ 83 then answered h 0x10 .done (stationBytes n (station s n)) s
       else answered h 0x10 .range [] s)) ∧
    (Ready (.readPlan h n) s → exec (.readPlan h n) s = .next
      (if n ≤ 7 then answered h 0x21 .done (planBytes s n) s else answered h 0x21 .range [] s)) ∧
    (Ready (.readPanel h n) s → exec (.readPanel h n) s = .next
      (if 1 ≤ n ∧ n ≤ 80 then answered h 0x77 .done (panelBytes s n) s else answered h 0x77 .range [] s)) ∧
    (Ready (.readBooking h n) s →
      (∀ b, 1 ≤ n → s.hold.bookings[n - 1]? = some b →
        exec (.readBooking h n) s = .next (answered h 0x35 .done b.bytes s)) ∧
      (n = 0 ∨ s.hold.bookings.length < n →
        exec (.readBooking h n) s = .next (answered h 0x35 .range [] s))) ∧
    (Ready (.readSession h) s →
      (∀ c, liveCtx s = some c →
        exec (.readSession h) s = .next (answered h 0x46 .done (sessionBytes s c) s)) ∧
      (liveCtx s = none → exec (.readSession h) s = .next (answered h 0x46 .noSession [] s))) ∧
    (Ready (.readQueue h n) s →
      (liveCtx s = none → exec (.readQueue h n) s = .next (answered h 0x56 .noSession [] s)) ∧
      (liveCtx s ≠ none → n = 0 ∨ 32 < n → exec (.readQueue h n) s = .next (answered h 0x56 .range [] s)) ∧
      (liveCtx s ≠ none → 1 ≤ n → n ≤ 32 → exec (.readQueue h n) s = .next (answered h 0x56 .done
        ([byte s.queue.length] ++ ((s.queue.drop (n - 1)).take 16).map byte) s)))

/-- SET GAIN and READ MIX: RANGE for a bus, source or code out of range; SET GAIN changes its one code, and READ MIX
answers a bus's codes, clip count, gate and sample clock, and then sets that one clip count to 0. -/
def Obligations.MixTableOrders : Prop :=
  ∀ (h : OrderHead) (bus source code : Nat) (s : State),
    (Ready (.setGain h bus source code) s → exec (.setGain h bus source code) s = .next
      (if bus ≤ 3 ∧ source ≤ 9 ∧ code ≤ 40 then
         answered h 0x60 .done []
           { s with mix := { s.mix with codes := s.mix.codes.setIfInBounds (bus * 10 + source) code } }
       else answered h 0x60 .range [] s)) ∧
    (Ready (.readMix h bus) s → exec (.readMix h bus) s = .next
      (if bus ≤ 3 then
         answered h 0x61 .done
           (((List.range 10).map fun k => byte (gainCode s bus k)) ++ bytes2 (clipCount s bus) ++
            [flagByte (gateOpen s bus), byte s.mix.selection.code, byte s.mix.inUse.code, flagByte s.mix.fault,
             flagByte s.mix.present])
           { s with mix := { s.mix with clips := s.mix.clips.setIfInBounds bus 0 } }
       else answered h 0x61 .range [] s))

/-- A sample times the factor of a code, 10 to the power (code - 40) × 1.5 / 20, rounded to the nearest integer with halves
away from zero; code 0 mutes. The two inequalities, in whole numbers, say |p| - 1/2 ≤ |x| × factor < |p| + 1/2. -/
def Obligations.GainProductIsNearest : Prop :=
  (∀ x : Int, gainProduct 0 x = 0) ∧
  ∀ (code : Nat) (x : Int), 1 ≤ code → code ≤ 40 → x.natAbs ≤ 8388608 →
    let p := gainProduct code x
    (2 * p.natAbs - 1) ^ 40 * 10 ^ (3 * (40 - code)) ≤ (2 * x.natAbs) ^ 40 ∧
    (2 * x.natAbs) ^ 40 < (2 * p.natAbs + 1) ^ 40 * 10 ^ (3 * (40 - code)) ∧
    (0 ≤ x → 0 ≤ p) ∧ (x < 0 → p ≤ 0) ∧ (code = 40 → p = x)

/-- What the orders leave before the arbiter acts: TAKE NOTICE answers the highest cause that is pending and not masked,
with its event, value and count, and clears it; START pops the highest of its causes; with none, it answers zeros and changes nothing. The next ALERT follows the
ANSWER. CLEAR NOTICES leaves no cause pending, masked or not. SET NOTICE MASK replaces the mask, in which causes 1 to 3
never stand, and answers the mask in force; where that unmasks nothing new it changes nothing else. (The value that
START carries is the model's choice, log 19.) (That with none the value and the count are 0,
and that a cleared cause keeps its last event and value, is log 19 too; that mask bits which no cause has are dropped is
log 18.) -/
def Obligations.NoticeOrders : Prop :=
  ∀ (h : OrderHead) (m : BitVec 16) (s : State),
    (Ready (.takeNotice h) s → h.part = 0 →
      let answer (result : List Byte) : Class2 := .answer
        { dest := h.source, tag := h.tag, code := 0x92, status := .done, part := 0, parts := 1, result := result }
      (highestCause s = 0 →
        exec (.takeNotice h) s = .next (answered h 0x92 .done [0, 0, 0, 0, 0] s)) ∧
      (∀ n, highestCause s = n → 2 ≤ n →
        ∃ t, exec (.takeNotice h) s = .next (settle t) ∧
          t.sched.class2 = s.sched.class2 ++
            [answer ([byte n, byte (noticeAt s n).event] ++ bytes2 (noticeAt s n).value ++ [byte (noticeAt s n).count])] ++
            (if present s 81 = true ∧ highestCause t ≠ 0 ∧ s.orders.alert = .none then [.alert] else []) ∧
          (noticeAt t n).pending = false ∧ (noticeAt t n).count = 0 ∧
          (∀ m, m ≠ n → noticeAt t m = noticeAt s m) ∧ t.orders.starts = s.orders.starts ∧
          t.orders.inbound = s.orders.inbound.tail ∧ t.hold = s.hold ∧ t.ctx = s.ctx) ∧
      (∀ c rest, highestCause s = 1 → s.orders.starts = c :: rest →
        ∃ t, exec (.takeNotice h) s = .next (settle t) ∧ t.orders.starts = rest ∧ t.orders.notices = s.orders.notices ∧
          t.sched.class2 = s.sched.class2 ++ [answer ([1, byte c.code, 0, 0, byte (rest.length + 1)])] ++
            (if present s 81 = true ∧ highestCause t ≠ 0 ∧ s.orders.alert = .none then [.alert] else []))) ∧
    (Ready (.clearNotices h) s → exec (.clearNotices h) s = .next (answered h 0x93 .done []
      { s with orders := { s.orders with
          notices := s.orders.notices.map fun x => { x with pending := false, count := 0 }, starts := [] } })) ∧
    (Ready (.setNoticeMask h m) s →
      ∃ t, exec (.setNoticeMask h m) s = .next t ∧ t.orders.mask = m &&& 0x07F8#16 ∧
        (∀ n, 1 ≤ n → n ≤ 3 → causeMasked t n = false) ∧
        (highestCause s ≠ 0 ∨ present s 81 = false →
          t = answered h 0x91 .done (bytes2 (m &&& 0x07F8#16).toNat)
            { s with orders := { s.orders with mask := m &&& 0x07F8#16 } }))

/-! ### The calendar -/

/-- SET CLOCK, when the clock is not valid yet, or is and the guard lets it through with no booking LIVE: table time and
clock valid are set, and reconciliation follows; an empty table needs nothing more, and a PENDING booking whose end has
passed is MISSED. While a booking is LIVE a valid clock refuses STATE. -/
def Obligations.SetClockTakesTime : Prop :=
  ∀ (h : OrderHead) (time : Nat) (guard : BitVec 32) (s : State), Ready (.setClock h time guard) s →
    (s.hold.clockValid = false ∨
      (s.guardLock = false ∧ (s.hold.guardSet = false ∨ guard = s.hold.guard) ∧ liveEntry s = none) →
      (s.hold.bookings = [] →
        exec (.setClock h time guard) s = .next (answered h 0x30 .done []
          { s with hold := { s.hold with tableTime := time, clockValid := true } })) ∧
      (∀ b, s.hold.bookings = [b] → b.live = false → b.endAt ≤ time →
        ∃ t, exec (.setClock h time guard) s = .next t ∧ t.hold.tableTime = time ∧ t.hold.clockValid = true ∧
          t.hold.bookings = [] ∧ (noticeAt t 6).pending = true ∧ (noticeAt t 6).event = 5 ∧
          (noticeAt t 6).value = b.id)) ∧
    (s.hold.clockValid = true → s.guardLock = false → (s.hold.guardSet = false ∨ guard = s.hold.guard) →
      liveEntry s ≠ none →
      exec (.setClock h time guard) s = .next (answered h 0x30 .state [] s))

/-- BOOK: the checks in their order, and the entry that a BOOK which passes them creates: BOOKED, PENDING, its grade the
profile's, no extension used, under an id that no entry holds, placed by its start. -/
def Obligations.BookChecksAndCreates : Prop :=
  ∀ (h : OrderHead) (f : RawBooking) (s : State), Ready (.book h f) s →
    (s.hold.clockValid = false → exec (.book h f) s = .next (answered h 0x32 .state [] s)) ∧
    (s.hold.clockValid = true → bookingFields s.hold.tableTime f = none →
      exec (.book h f) s = .next (answered h 0x32 .range [] s)) ∧
    ∀ p, s.hold.clockValid = true → bookingFields s.hold.tableTime f = some p →
      (f.startAt < s.hold.horizon → exec (.book h f) s = .next (answered h 0x32 .frozen [] s)) ∧
      (s.hold.horizon ≤ f.startAt → 48 ≤ s.hold.bookings.length →
        exec (.book h f) s = .next (answered h 0x32 .full [] s)) ∧
      (∀ e, s.hold.horizon ≤ f.startAt → s.hold.bookings.length < 48 →
        conflictEntry s f.startAt f.endAt none = some e →
        exec (.book h f) s = .next (answered h 0x32 .overlap (bytes2 e.id) s)) ∧
      (s.hold.horizon ≤ f.startAt → s.hold.bookings.length < 48 → conflictEntry s f.startAt f.endAt none = none →
        1 ≤ s.hold.nextId → s.hold.nextId ≤ 65535 →
        ∃ id table, 1 ≤ id ∧ id ≤ 65535 ∧ (∀ e ∈ s.hold.bookings, e.id ≠ id) ∧
          table.Perm ({ id := id, startAt := f.startAt, endAt := f.endAt, organiser := f.organiser, walkIn := false,
                        plan := f.plan, profile := p, live := false, grade := p.grade, used := 0 } :: s.hold.bookings) ∧
          (s.hold.bookings.Pairwise (fun a b => a.startAt ≤ b.startAt) →
            table.Pairwise (fun a b => a.startAt ≤ b.startAt)) ∧
          exec (.book h f) s = .next (answered h 0x32 .done (bytes2 id)
            { s with hold := { s.hold with bookings := table, nextId := if 65535 ≤ id then 1 else id + 1 } }))

/-- ALTER and CANCEL: the checks in their order; an altered entry keeps its id, kind and state PENDING, takes the new
fields, starts afresh with the new profile's grade and stands where its new start puts it; a cancelled one is removed. -/
def Obligations.AlterAndCancel : Prop :=
  ∀ (h : OrderHead) (id : Nat) (f : RawBooking) (s : State),
    (Ready (.alter h id f) s →
      (s.hold.clockValid = false → exec (.alter h id f) s = .next (answered h 0x33 .state [] s)) ∧
      (s.hold.clockValid = true → bookingOf s id = none →
        exec (.alter h id f) s = .next (answered h 0x33 .range [] s)) ∧
      ∀ b, s.hold.clockValid = true → bookingOf s id = some b →
        (b.live = true → exec (.alter h id f) s = .next (answered h 0x33 .state [] s)) ∧
        (b.live = false → bookingFields s.hold.tableTime f = none →
          exec (.alter h id f) s = .next (answered h 0x33 .range [] s)) ∧
        ∀ p, b.live = false → bookingFields s.hold.tableTime f = some p →
          (b.startAt < s.hold.horizon ∨ f.startAt < s.hold.horizon →
            exec (.alter h id f) s = .next (answered h 0x33 .frozen [] s)) ∧
          (s.hold.horizon ≤ b.startAt → s.hold.horizon ≤ f.startAt →
            (∀ e, conflictEntry s f.startAt f.endAt (some id) = some e →
              exec (.alter h id f) s = .next (answered h 0x33 .overlap (bytes2 e.id) s)) ∧
            (conflictEntry s f.startAt f.endAt (some id) = none →
              ∃ table, table.Perm ({ b with startAt := f.startAt, endAt := f.endAt, organiser := f.organiser,
                                            plan := f.plan, profile := p, grade := p.grade, used := 0 } ::
                                   s.hold.bookings.filter fun e => e.id != id) ∧
                (s.hold.bookings.Pairwise (fun a b => a.startAt ≤ b.startAt) →
                  table.Pairwise (fun a b => a.startAt ≤ b.startAt)) ∧
                exec (.alter h id f) s = .next (answered h 0x33 .done (bytes2 id)
                  { s with hold := { s.hold with bookings := table } })))) ∧
    (Ready (.cancel h id) s →
      (bookingOf s id = none → exec (.cancel h id) s = .next (answered h 0x34 .range [] s)) ∧
      ∀ b, bookingOf s id = some b →
        (b.live = true → exec (.cancel h id) s = .next (answered h 0x34 .state [] s)) ∧
        (b.live = false → b.startAt < s.hold.horizon →
          exec (.cancel h id) s = .next (answered h 0x34 .frozen [] s)) ∧
        (b.live = false → s.hold.horizon ≤ b.startAt →
          exec (.cancel h id) s = .next (answered h 0x34 .done []
            { s with hold := { s.hold with bookings := s.hold.bookings.filter fun e => e.id != id } })))

/-- SET HORIZON takes a value not lower than the horizon and refuses a lower one FROZEN; LOWER HORIZON and ERASE BOOKINGS,
once the guard lets them through, take any value and remove every PENDING entry; SET GUARD is taken once. -/
def Obligations.HorizonEraseAndGuard : Prop :=
  ∀ (h : OrderHead) (time : Nat) (guard : BitVec 32) (s : State),
    let passes := s.guardLock = false ∧ (s.hold.guardSet = false ∨ guard = s.hold.guard)
    (Ready (.setHorizon h time) s → exec (.setHorizon h time) s = .next
      (if time < s.hold.horizon then answered h 0x36 .frozen [] s
       else answered h 0x36 .done [] { s with hold := { s.hold with horizon := time } })) ∧
    (Ready (.lowerHorizon h time guard) s → passes → exec (.lowerHorizon h time guard) s =
      .next (answered h 0x37 .done [] { s with hold := { s.hold with horizon := time } })) ∧
    (Ready (.eraseBookings h guard) s → passes → exec (.eraseBookings h guard) s = .next (answered h 0x38 .done
      [byte (s.hold.bookings.filter fun b => !b.live).length]
      { s with hold := { s.hold with bookings := s.hold.bookings.filter fun b => b.live } })) ∧
    (Ready (.setGuard h guard) s → exec (.setGuard h guard) s = .next
      (if s.hold.guardSet = true then answered h 0x39 .state [] s
       else answered h 0x39 .done [] { s with hold := { s.hold with guard := guard, guardSet := true } }))

/-- The guard check of the three guarded orders: in guard lock each is refused and nothing changes; a wrong guard puts guard
lock on, is refused, raises GUARD notice with the order code, and has no other effect on the hold domain. -/
def Obligations.WrongGuardLocksGuardedOrders : Prop :=
  ∀ (h : OrderHead) (time : Nat) (guard : BitVec 32) (s : State) (i : Instr) (code : Nat),
    ((i = .setClock h time guard ∧ code = 0x30 ∧ s.hold.clockValid = true) ∨
      (i = .lowerHorizon h time guard ∧ code = 0x37) ∨ (i = .eraseBookings h guard ∧ code = 0x38)) →
    Ready i s →
    (s.guardLock = true → exec i s = .next (answered h code .guardLock [] s)) ∧
    (s.guardLock = false → s.hold.guardSet = true → guard ≠ s.hold.guard →
      ∃ t, exec i s = .next t ∧ t.guardLock = true ∧ t.hold = s.hold ∧ t.ctx = s.ctx ∧
        (noticeAt t 3).pending = true ∧ (noticeAt t 3).event = 1 ∧ (noticeAt t 3).value = code ∧
        .answer { dest := h.source, tag := h.tag, code := code, status := .guardLock, part := h.part, parts := 1,
                  result := [] } ∈ t.sched.class2)

/-- LOAD PLAN and LOAD WALK-IN replace what they load whole, refusing RANGE for fields out of range and, for the active
plan of a LIVE session, STATE. LOAD RING PLAN refuses RANGE and then, while locked, STATE; taken, it replaces the plan,
locks unless keep-open is 1, and sets the clock selection, and an external clock that is not there is a fault. -/
def Obligations.LoadsReplaceWhole : Prop :=
  ∀ (h : OrderHead) (p c1 c2 : Nat) (en right : SeatSet) (w : RawWalkIn) (f : RawRingPlan) (s : State),
    (Ready (.loadPlan h p en c1 c2 right) s →
      (7 < p ∨ chairsOf en c1 c2 = none →
        exec (.loadPlan h p en c1 c2 right) s = .next (answered h 0x20 .range [] s)) ∧
      ∀ chairs, p ≤ 7 → chairsOf en c1 c2 = some chairs →
        exec (.loadPlan h p en c1 c2 right) s = .next
          (if ∃ c ∈ liveCtx s, c.plan = p then answered h 0x20 .state [] s
           else answered h 0x20 .done [] { s with hold := { s.hold with
             plans := s.hold.plans.setIfInBounds p { enabled := en, chairs := chairs, shareRight := right } } })) ∧
    (Ready (.loadWalkIn h w) s →
      (walkInOf w = none → exec (.loadWalkIn h w) s = .next (answered h 0x22 .range [] s)) ∧
      ∀ x, walkInOf w = some x →
        exec (.loadWalkIn h w) s = .next (answered h 0x22 .done [] { s with hold := { s.hold with walkIn := x } })) ∧
    (Ready (.loadRingPlan h f) s →
      (ringPlanOf f = none → exec (.loadRingPlan h f) s = .next (answered h 0x94 .range [] s)) ∧
      ∀ x, ringPlanOf f = some x →
        (s.stn.locked = true → exec (.loadRingPlan h f) s = .next (answered h 0x94 .state [] s)) ∧
        (s.stn.locked = false →
          ∃ t, exec (.loadRingPlan h f) s = .next t ∧ t.stn = { s.stn with plan := x, locked := !x.keepOpen } ∧
            t.mix.selection = x.clockSource ∧
            t.sup.cadence = (if s.ctx.isSome = true ∨ s.sup.timer = true ∨ x.idleAllowed = false then .full else .idle) ∧
            (x.clockSource = s.mix.selection → t.mix = s.mix) ∧
            (x.clockSource = .external → s.mix.selection = .internal → s.mix.fault = false → s.mix.present = true →
              t.mix.inUse = .external) ∧
            (x.clockSource = .external → s.mix.selection = .internal → s.mix.fault = false → s.mix.present = false →
              t.mix.fault = true ∧ (noticeAt t 4).pending = true ∧ (noticeAt t 4).event = 1) ∧
            (x.clockSource = .internal → t.mix.fault = s.mix.fault) ∧ t.hold = s.hold ∧ t.ctx = s.ctx))

/-! ### Sessions -/

/-- START NOW: STATE with a context or without a valid clock, FULL with 48 entries, OVERLAP with the first PENDING entry in a
window under 10 minutes; otherwise a walk-in entry stands first in the table, LIVE, and its session runs. -/
def Obligations.StartNowStartsWalkIn : Prop :=
  ∀ (h : OrderHead) (s : State), Ready (.startNow h) s →
    (s.ctx ≠ none ∨ s.hold.clockValid = false →
      exec (.startNow h) s = .next (answered h 0x40 .state [] s)) ∧
    (s.ctx = none → s.hold.clockValid = true →
      (48 ≤ s.hold.bookings.length → exec (.startNow h) s = .next (answered h 0x40 .full [] s)) ∧
      (∀ e, s.hold.bookings.length < 48 → windowWide s = false → firstPending s = some e →
        exec (.startNow h) s = .next (answered h 0x40 .overlap (bytes2 e.id) s)) ∧
      (s.hold.bookings.length < 48 → windowWide s = true →
        conflictEntry s (s.hold.tableTime / 60 * 60) (walkInEnd s) none = none → walkInEnd s ≤ 4294967295 →
        ∃ t c e, exec (.startNow h) s = .next t ∧ t.ctx = some c ∧ t.hold.bookings = e :: s.hold.bookings ∧
          e.live = true ∧ e.walkIn = true ∧ e.organiser = 0 ∧ e.startAt = s.hold.tableTime / 60 * 60 ∧
          e.endAt = walkInEnd s ∧ e.plan = s.hold.walkIn.plan ∧ e.profile = s.hold.walkIn.profile ∧
          e.grade = s.hold.walkIn.profile.grade ∧ e.used = 0 ∧
          c.id = e.id ∧ c.walkIn = true ∧ c.organiser = 0 ∧ c.plan = e.plan ∧ c.profile = e.profile ∧
          c.grade = e.grade ∧ c.endAt = e.endAt ∧ c.resumed = false ∧
          t.hold.nextId = (if 65535 ≤ e.id then 1 else e.id + 1) ∧ t.sup.cadence = .full ∧
          .answer { dest := h.source, tag := h.tag, code := 0x40, status := .done, part := h.part, parts := 1,
                    result := ((bytes2 e.id).drop (28 * h.part)).take 28 } ∈ t.sched.class2))

/-- END NOW: NO SESSION with none LIVE; otherwise the session ends: its entry is removed and, with no other entry in the
table, no context, no queue, no open microphone, no share and no priority remain. -/
def Obligations.EndNowEndsSession : Prop :=
  ∀ (h : OrderHead) (s : State), Ready (.endNow h) s →
    (liveCtx s = none → exec (.endNow h) s = .next (answered h 0x41 .noSession [] s)) ∧
    (∀ c b, liveCtx s = some c → s.hold.bookings = [b] → b.live = true → FloorTables s →
      ∃ t, exec (.endNow h) s = .next t ∧ t.ctx = none ∧ t.hold = { s.hold with bookings := [] } ∧ t.queue = [] ∧
        channels t = [] ∧ t.chan.order = [] ∧ t.chan.holders = [] ∧ t.chan.holdMode = none ∧
        t.share = { holder := none, waiting := [], grace := none, deferred := none } ∧
        t.sup = { s.sup with timer := true, cadence := .full } ∧ t.ring = s.ring ∧ t.stn = s.stn ∧ t.mix = s.mix ∧
        (noticeAt t 6).pending = true ∧ (noticeAt t 6).event = 4 ∧ (noticeAt t 6).value = c.id ∧
        .answer { dest := h.source, tag := h.tag, code := 0x41, status := .done, part := h.part, parts := 1,
                  result := ((bytes2 c.id).drop (28 * h.part)).take 28 } ∈ t.sched.class2)

/-- EXTEND: the checks in their order, and an extension taken: the entry and the context take the new end, the extension is
counted, the warning time is computed again and the session is LIVE. -/
def Obligations.ExtendMovesEnd : Prop :=
  ∀ (h : OrderHead) (s : State), Ready (.extend h) s →
    (liveCtx s = none → exec (.extend h) s = .next (answered h 0x42 .noSession [] s)) ∧
    ∀ c b, liveCtx s = some c → liveEntry s = some b →
      let newEnd := c.endAt + c.profile.extStep * 60
      (3 ≤ b.used → exec (.extend h) s = .next (answered h 0x42 .state [] s)) ∧
      (∀ e, b.used < 3 → nextEntry s = some e → e.startAt < newEnd + s.hold.walkIn.gap * 60 →
        exec (.extend h) s = .next (answered h 0x42 .overlap (bytes2 e.id) s)) ∧
      (b.used < 3 → (∀ e ∈ nextEntry s, newEnd + s.hold.walkIn.gap * 60 ≤ e.startAt) →
        (actionRoom s = false → exec (.extend h) s = .next (answered h 0x42 .logFull [] s)) ∧
        (actionRoom s = true → newEnd ≤ 4294967295 → c.profile.endLead * 60 ≤ newEnd →
          ∃ t, exec (.extend h) s = .next t ∧
            t.ctx = some { c with endAt := newEnd, warnAt := newEnd - c.profile.endLead * 60, phase := .live } ∧
            t.hold = { s.hold with bookings := s.hold.bookings.map fun x =>
              if x.live = true then { x with endAt := newEnd, used := min 3 (x.used + 1) } else x } ∧
            t.queue = s.queue ∧ t.chan = s.chan ∧ t.share = s.share ∧ t.stn = s.stn ∧ t.mix = s.mix ∧
            (noticeAt t 6).pending = true ∧ (noticeAt t 6).event = 3 ∧
            .answer { dest := h.source, tag := h.tag, code := 0x42, status := .done, part := h.part, parts := 1,
                      result := ((bytes4 newEnd ++ [byte (b.used + 1)]).drop (28 * h.part)).take 28 }
              ∈ t.sched.class2))

/-- RAISE GRADE: the checks in their order, and a raise taken: the context and the LIVE entry take the grade, from grade 1
the far flag is off, from grade 2 the RECORD bus is gated, at grade 3 the FAR bus too. -/
def Obligations.RaiseGradeOnlyRaises : Prop :=
  ∀ (h : OrderHead) (g : Nat) (s : State), Ready (.raiseGrade h g) s →
    (liveCtx s = none → exec (.raiseGrade h g) s = .next (answered h 0x43 .noSession [] s)) ∧
    ∀ c, liveCtx s = some c →
      (3 < g → exec (.raiseGrade h g) s = .next (answered h 0x43 .range [] s)) ∧
      (g ≤ 3 → g ≤ c.grade → exec (.raiseGrade h g) s = .next (answered h 0x43 .state [] s)) ∧
      (g ≤ 3 → c.grade < g → actionRoom s = false →
        exec (.raiseGrade h g) s = .next (answered h 0x43 .logFull [] s)) ∧
      (g ≤ 3 → c.grade < g → actionRoom s = true →
        ∃ t, exec (.raiseGrade h g) s = .next t ∧ t.ctx = some { c with grade := g } ∧
          t.hold = { s.hold with bookings := s.hold.bookings.map fun b =>
            if b.live = true then { b with grade := g } else b } ∧
          t.share = { s.share with holder := s.share.holder.map fun x => { x with far := false } } ∧
          (2 ≤ g → gateOpen t 2 = false) ∧ (g = 3 → gateOpen t 3 = false) ∧
          t.queue = s.queue ∧ t.chan = s.chan ∧ t.stn = s.stn ∧ t.mix = s.mix ∧
          .answer { dest := h.source, tag := h.tag, code := 0x43, status := .done, part := h.part, parts := 1,
                    result := [] } ∈ t.sched.class2)

/-- ADJUST SESSION: NO SESSION, RANGE, and a field of the profile copy changed. The fields that only later events read change
nothing else; the end warning lead moves the warning time; the floor mode, the open limit and the full action open no
seat while none is queued, and a lowered limit closes delegates down to it. The booking table is not touched. -/
def Obligations.AdjustSessionChangesCopy : Prop :=
  ∀ (h : OrderHead) (field value : Nat) (s : State), Ready (.adjustSession h field value) s →
    (liveCtx s = none → exec (.adjustSession h field value) s = .next (answered h 0x44 .noSession [] s)) ∧
    ∀ c, liveCtx s = some c →
      (adjustProfile c.profile field value = none →
        exec (.adjustSession h field value) s = .next (answered h 0x44 .range [] s)) ∧
      (field = 0 ∨ field = 9 ∨ field = 10 ∨ 15 < field → adjustProfile c.profile field value = none) ∧
      ∀ p, adjustProfile c.profile field value = some p →
        (p = c.profile → exec (.adjustSession h field value) s = .next (answered h 0x44 .done [] s)) ∧
        (p ≠ c.profile → field ∈ [3, 4, 5, 7, 8, 11, 12, 13, 15] ∨ (s.queue = [] ∧ field ∈ [1, 6]) ∨
            (s.queue = [] ∧ field = 2 ∧ c.profile.openLimit < p.openLimit) →
          exec (.adjustSession h field value) s =
            .next (answered h 0x44 .done [] { s with ctx := some { c with profile := p } })) ∧
        (p ≠ c.profile → field = 14 → p.endLead * 60 ≤ c.endAt → c.endAt ≤ 4294967295 →
          exec (.adjustSession h field value) s = .next (answered h 0x44 .done []
            { s with ctx := some { c with profile := p, warnAt := c.endAt - p.endLead * 60 } })) ∧
        (field = 2 → p.openLimit < c.profile.openLimit → s.queue = [] → FloorTables s →
          ∃ t, exec (.adjustSession h field value) s = .next t ∧ t.ctx = some { c with profile := p } ∧
            delegateCount t = min (delegateCount s) p.openLimit ∧ t.hold = s.hold ∧ t.queue = [] ∧ t.stn = s.stn)

/-- SWITCH PLAN: NO SESSION, RANGE, DONE without a change for the active plan, LOG FULL; otherwise the active plan becomes p,
and with nobody on the floor nothing else of the floor changes. The booking table keeps its plan. -/
def Obligations.SwitchPlanTakesPlan : Prop :=
  ∀ (h : OrderHead) (p : Nat) (s : State), Ready (.switchPlan h p) s →
    (liveCtx s = none → exec (.switchPlan h p) s = .next (answered h 0x45 .noSession [] s)) ∧
    ∀ c, liveCtx s = some c →
      (7 < p → exec (.switchPlan h p) s = .next (answered h 0x45 .range [] s)) ∧
      (p ≤ 7 → p = c.plan → exec (.switchPlan h p) s = .next (answered h 0x45 .done [] s)) ∧
      (p ≤ 7 → p ≠ c.plan → actionRoom s = false →
        exec (.switchPlan h p) s = .next (answered h 0x45 .logFull [] s)) ∧
      (p ≤ 7 → p ≠ c.plan → actionRoom s = true →
        ∃ t, exec (.switchPlan h p) s = .next t ∧ t.ctx = some { c with plan := p } ∧ t.hold = s.hold ∧
          t.stn = s.stn ∧ t.mix = s.mix ∧ t.ring = s.ring ∧
          (s.queue = [] → channels s = [] → s.chan.holders = [] → s.share.holder = none → s.share.waiting = [] →
            t.queue = [] ∧ t.chan = s.chan ∧ t.share.holder = none ∧ t.share.waiting = []) ∧
          .answer { dest := h.source, tag := h.tag, code := 0x45, status := .done, part := h.part, parts := 1,
                    result := [] } ∈ t.sched.class2)

/-! ### The floor -/

/-- GRANT: the checks in their order; a chair seat opens outside the open limit, a delegate below it with its speak timer and
under a hold in DUCK mode suppressed, each on the lowest free channel; a forced GRANT at the limit closes the earliest
delegate and opens the seat. -/
def Obligations.GrantOpensMicrophone : Prop :=
  ∀ (h : OrderHead) (n force : Nat) (s : State), Ready (.grant h n force) s →
    (liveCtx s = none → exec (.grant h n force) s = .next (answered h 0x50 .noSession [] s)) ∧
    ∀ c, liveCtx s = some c →
      (n = 0 ∨ 80 < n ∨ 1 < force → exec (.grant h n force) s = .next (answered h 0x50 .range [] s)) ∧
      (1 ≤ n → n ≤ 80 → force ≤ 1 →
        (present s n = false → exec (.grant h n force) s = .next (answered h 0x50 .absent [] s)) ∧
        (present s n = true → enabledSeat s n = false ∨ micOpen s n = true →
          exec (.grant h n force) s = .next (answered h 0x50 .state [] s)) ∧
        (present s n = true → enabledSeat s n = true → micOpen s n = false →
          let opened (k : Nat) (e : Channel) : Prop :=
            ∃ t, exec (.grant h n force) s = .next t ∧ FloorFrame s t ∧ channelAt t k = some e ∧
              (∀ j, j ≠ k → channelAt t j = channelAt s j) ∧ t.chan.order = s.chan.order ++ [k] ∧
              t.chan.holders = s.chan.holders ∧ t.queue = s.queue.erase n ∧ .mic n ∈ t.sched.class1 ∧
              .answer { dest := h.source, tag := h.tag, code := 0x50, status := .done, part := h.part, parts := 1,
                        result := ([byte k].drop (28 * h.part)).take 28 } ∈ t.sched.class2
          (chairSeat s n = true →
            (micRoom s false = false → exec (.grant h n force) s = .next (answered h 0x50 .logFull [] s)) ∧
            (∀ k, micRoom s false = true → freeChannel s = some k →
              opened k { seat := n, category := .chair, cause := .order, openedAt := s.hold.tableTime,
                         mute := c.profile.openMute, timer := none, warned := false, suppressed := false })) ∧
          (chairSeat s n = false →
            (priorityHeld s .close = true →
              exec (.grant h n force) s = .next (answered h 0x50 .state [] s)) ∧
            (priorityHeld s .close = false → c.profile.openLimit ≤ delegateCount s → force = 0 →
              exec (.grant h n force) s = .next (answered h 0x50 .full [] s)) ∧
            (priorityHeld s .close = false → delegateCount s < c.profile.openLimit →
              (micRoom s false = false → exec (.grant h n force) s = .next (answered h 0x50 .logFull [] s)) ∧
              (∀ k, micRoom s false = true → freeChannel s = some k →
                opened k
                  { seat := n, category := .delegate, cause := .order, openedAt := s.hold.tableTime,
                    mute := c.profile.openMute,
                    timer := if c.profile.speakLimit = 0 then none else
                      some { remaining := c.profile.speakLimit, lead := c.profile.warnLead,
                             action := c.profile.limitAction, due := false },
                    warned := decide (c.profile.speakLimit ≠ 0 ∧ c.profile.speakLimit ≤ c.profile.warnLead),
                    suppressed := priorityHeld s .duck })) ∧
            (∀ m, priorityHeld s .close = false → c.profile.openLimit ≤ delegateCount s → force = 1 →
              earliestDelegate s = some m → replaceAllowed s n = true → FloorTables s →
              ∃ t, exec (.grant h n force) s = .next t ∧ FloorFrame s t ∧ micOpen t n = true ∧ micOpen t m = false ∧
                delegateCount t = delegateCount s ∧ openCount t = openCount s ∧ n ∉ t.queue))))

/-- CLOSE and CLOSE ALL: no seat being queued, the microphone closes and its channel is free, with its channel number and
duration in the answer; CLOSE ALL closes every delegate, and the chairs too with flag 1, and answers their number. With a
seat queued, in QUEUE mode under LOOSE minutes, the CLOSE of a delegate makes room and the queue's one seat is opened. -/
def Obligations.CloseOrdersFreeChannels : Prop :=
  ∀ (h : OrderHead) (n : Nat) (s : State),
    (Ready (.close h n) s →
      (liveCtx s = none → exec (.close h n) s = .next (answered h 0x51 .noSession [] s)) ∧
      (liveCtx s ≠ none → n = 0 ∨ 80 < n → exec (.close h n) s = .next (answered h 0x51 .range [] s)) ∧
      (liveCtx s ≠ none → 1 ≤ n → n ≤ 80 →
        (micOpen s n = false → exec (.close h n) s = .next (answered h 0x51 .state [] s)) ∧
        (∀ k e, channelOf s n = some k → channelAt s k = some e → s.queue = [] → FloorTables s →
          ∃ t, exec (.close h n) s = .next t ∧ FloorFrame s t ∧ channelAt t k = none ∧ micOpen t n = false ∧
            (∀ j, j ≠ k → channelAt t j = channelAt s j) ∧ t.chan.order = s.chan.order.erase k ∧
            t.chan.holders = s.chan.holders ∧ t.queue = [] ∧ .mic n ∈ t.sched.class1 ∧
            .answer { dest := h.source, tag := h.tag, code := 0x51, status := .done, part := h.part, parts := 1,
                      result := (([byte k] ++ bytes4 (s.hold.tableTime - e.openedAt)).drop (28 * h.part)).take 28 }
              ∈ t.sched.class2) ∧
        (∀ k e c m, channelOf s n = some k → channelAt s k = some e → e.category = .delegate → liveCtx s = some c →
          c.profile.floorMode = .queue → c.mode = .loose → s.queue = [m] → present s m = true →
          enabledSeat s m = true → chairSeat s m = false → delegateCount s ≤ c.profile.openLimit →
          priorityHeld s .close = false → FloorTables s →
          ∃ t, exec (.close h n) s = .next t ∧ FloorFrame s t ∧ micOpen t n = false ∧ micOpen t m = true ∧
            t.queue = [] ∧ delegateCount t = delegateCount s ∧ .mic n ∈ t.sched.class1 ∧ .mic m ∈ t.sched.class1))) ∧
    (Ready (.closeAll h n) s →
      (liveCtx s = none → exec (.closeAll h n) s = .next (answered h 0x52 .noSession [] s)) ∧
      (liveCtx s ≠ none → 1 < n → exec (.closeAll h n) s = .next (answered h 0x52 .range [] s)) ∧
      (liveCtx s ≠ none → n ≤ 1 → s.queue = [] → FloorTables s →
        ∃ t, exec (.closeAll h n) s = .next t ∧ FloorFrame s t ∧
          (∀ k < 8, channelAt t k = (channelAt s k).filter fun e => decide (n = 0) && decide (e.category = .chair)) ∧
          t.chan.holders = s.chan.holders ∧ t.queue = [] ∧
          .answer { dest := h.source, tag := h.tag, code := 0x52, status := .done, part := h.part, parts := 1,
                    result := ([byte ((channels s).filter fun e =>
                      decide (n = 1) || decide (e.category = .delegate)).length].drop (28 * h.part)).take 28 }
            ∈ t.sched.class2))

/-- QUEUE INSERT, QUEUE REMOVE and QUEUE CLEAR: the checks in their order. An inserted seat takes its position, or has
been opened by auto-open; inserted into an empty queue with a place, and room in the minutes, it is opened at once, as a
delegate with cause QUEUE on the lowest free channel. A removed seat is out of the queue; a cleared queue is empty and
opens nobody. (That the
answered length is the one the insertion makes, before auto-open, is the model's reading, log 41.) -/
def Obligations.QueueOrdersReshapeQueue : Prop :=
  ∀ (h : OrderHead) (n p : Nat) (s : State),
    (Ready (.queueInsert h n p) s →
      (liveCtx s = none → exec (.queueInsert h n p) s = .next (answered h 0x53 .noSession [] s)) ∧
      (liveCtx s ≠ none → n = 0 ∨ 80 < n → exec (.queueInsert h n p) s = .next (answered h 0x53 .range [] s)) ∧
      (liveCtx s ≠ none → 1 ≤ n → n ≤ 80 →
        (present s n = false ∨ enabledSeat s n = false ∨ chairSeat s n = true ∨ n ∈ s.queue ∨ micOpen s n = true →
          exec (.queueInsert h n p) s = .next (answered h 0x53 .state [] s)) ∧
        (present s n = true → enabledSeat s n = true → chairSeat s n = false → n ∉ s.queue → micOpen s n = false →
          (32 ≤ s.queue.length → exec (.queueInsert h n p) s = .next (answered h 0x53 .full [] s)) ∧
          (s.queue.length < 32 → p = 0 ∨ s.queue.length + 1 < p →
            exec (.queueInsert h n p) s = .next (answered h 0x53 .range [] s)) ∧
          (s.queue.length < 32 → 1 ≤ p → p ≤ s.queue.length + 1 →
            ∃ t, exec (.queueInsert h n p) s = .next t ∧ FloorFrame s t ∧ (n ∈ t.queue ∨ micOpen t n = true) ∧
              (autoMode s = false → t.queue = s.queue.insertIdx (p - 1) n ∧ t.chan = s.chan ∧ t.share = s.share) ∧
              (∀ c k, autoMode s = true → s.queue = [] → liveCtx s = some c → delegateCount s < c.profile.openLimit →
                priorityHeld s .close = false → freeChannel s = some k →
                strictMode s = false ∨ openCount s + laneHeld s + 6 ≤ freeEntries s →
                t.queue = [] ∧ t.chan.order = s.chan.order ++ [k] ∧ .mic n ∈ t.sched.class1 ∧
                (∀ j, j ≠ k → channelAt t j = channelAt s j) ∧
                channelAt t k = some
                  { seat := n, category := .delegate, cause := .queue, openedAt := s.hold.tableTime,
                    mute := c.profile.openMute,
                    timer := if c.profile.speakLimit = 0 then none else
                      some { remaining := c.profile.speakLimit, lead := c.profile.warnLead,
                             action := c.profile.limitAction, due := false },
                    warned := decide (c.profile.speakLimit ≠ 0 ∧ c.profile.speakLimit ≤ c.profile.warnLead),
                    suppressed := priorityHeld s .duck }) ∧
              .answer { dest := h.source, tag := h.tag, code := 0x53, status := .done, part := h.part, parts := 1,
                        result := ([byte (s.queue.length + 1)].drop (28 * h.part)).take 28 } ∈ t.sched.class2)))) ∧
    (Ready (.queueRemove h n) s →
      (liveCtx s = none → exec (.queueRemove h n) s = .next (answered h 0x54 .noSession [] s)) ∧
      (liveCtx s ≠ none → n = 0 ∨ 80 < n → exec (.queueRemove h n) s = .next (answered h 0x54 .range [] s)) ∧
      (liveCtx s ≠ none → 1 ≤ n → n ≤ 80 → n ∉ s.queue →
        exec (.queueRemove h n) s = .next (answered h 0x54 .state [] s)) ∧
      (liveCtx s ≠ none → 1 ≤ n → n ≤ 80 → n ∈ s.queue → FloorTables s →
        ∃ t, exec (.queueRemove h n) s = .next t ∧ FloorFrame s t ∧ n ∉ t.queue ∧ micOpen t n = false ∧
          (autoMode s = false ∨ s.queue.head? ≠ some n →
            t.queue = s.queue.erase n ∧ t.chan.table = s.chan.table ∧ t.share = s.share) ∧
          .answer { dest := h.source, tag := h.tag, code := 0x54, status := .done, part := h.part, parts := 1,
                    result := [] } ∈ t.sched.class2)) ∧
    (Ready (.queueClear h) s →
      (liveCtx s = none → exec (.queueClear h) s = .next (answered h 0x55 .noSession [] s)) ∧
      (liveCtx s ≠ none →
        ∃ t, exec (.queueClear h) s = .next t ∧ FloorFrame s t ∧ t.queue = [] ∧ t.chan.table = s.chan.table ∧
          t.chan.order = s.chan.order ∧ t.share = s.share ∧
          .answer { dest := h.source, tag := h.tag, code := 0x55, status := .done, part := h.part, parts := 1,
                    result := ([byte s.queue.length].drop (28 * h.part)).take 28 } ∈ t.sched.class2))

/-- SHARE GRANT, SHARE END and SHARE CLEAR WAITING: the checks in their order; a granted seat holds the lane with basis
UNBOUND and leaves the waiting list; an ended share, no seat waiting, leaves the lane free; a cleared list is empty. -/
def Obligations.ShareOrdersMoveLane : Prop :=
  ∀ (h : OrderHead) (n : Nat) (s : State),
    (Ready (.shareGrant h n) s →
      (liveCtx s = none → exec (.shareGrant h n) s = .next (answered h 0x68 .noSession [] s)) ∧
      (liveCtx s ≠ none → n = 0 ∨ 80 < n → exec (.shareGrant h n) s = .next (answered h 0x68 .range [] s)) ∧
      (liveCtx s ≠ none → 1 ≤ n → n ≤ 80 →
        (present s n = false → exec (.shareGrant h n) s = .next (answered h 0x68 .absent [] s)) ∧
        (present s n = true → isHolder s n = true ∨ s.stn.plan.contentFitted = false ∨ enabledSeat s n = false ∨
            hasShareRight s n = false →
          exec (.shareGrant h n) s = .next (answered h 0x68 .state [] s)) ∧
        (isHolder s n = false → eligibleSix s n = true →
          (shareRoom s s.share.holder.isSome = false →
            exec (.shareGrant h n) s = .next (answered h 0x68 .logFull [] s)) ∧
          (shareRoom s s.share.holder.isSome = true →
            ∃ t, exec (.shareGrant h n) s = .next t ∧ FloorFrame s t ∧ t.chan = s.chan ∧ t.queue = s.queue ∧
              t.share.holder = some { seat := n, basis := .unbound, far := decide (gradeNow s = 0) } ∧
              t.share.waiting = s.share.waiting.erase n ∧ .laneSeat n ∈ t.sched.class1 ∧
              .laneBridge ∈ t.sched.class1 ∧ (∀ x ∈ s.share.holder, .laneSeat x.seat ∈ t.sched.class1) ∧
              .answer { dest := h.source, tag := h.tag, code := 0x68, status := .done, part := h.part, parts := 1,
                        result := [] } ∈ t.sched.class2)))) ∧
    (Ready (.shareEnd h) s →
      (liveCtx s = none → exec (.shareEnd h) s = .next (answered h 0x69 .noSession [] s)) ∧
      (liveCtx s ≠ none → s.share.holder = none →
        exec (.shareEnd h) s = .next (answered h 0x69 .state [] s)) ∧
      (∀ x, liveCtx s ≠ none → s.share.holder = some x → s.share.waiting = [] →
        ∃ t, exec (.shareEnd h) s = .next t ∧ FloorFrame s t ∧ t.chan = s.chan ∧ t.queue = s.queue ∧
          t.share = { s.share with holder := none, grace := none } ∧ .laneSeat x.seat ∈ t.sched.class1 ∧
          .laneBridge ∈ t.sched.class1 ∧
          .answer { dest := h.source, tag := h.tag, code := 0x69, status := .done, part := h.part, parts := 1,
                    result := ([0].drop (28 * h.part)).take 28 } ∈ t.sched.class2)) ∧
    (Ready (.shareClearWaiting h) s → exec (.shareClearWaiting h) s = .next
      (if liveCtx s = none then answered h 0x6A .noSession [] s
       else answered h 0x6A .done [byte s.share.waiting.length]
         { s with share := { s.share with waiting := [], deferred := none } }))

/-- KEY cells of a PRESENT seat, in a frame that returns at IDLE cadence; CALL and REQUEST as they stand before the arbiter
acts. CALL sets call pending, raises CALL notice and marks the lamp once. REQUEST from an enabled delegate seat in CHAIR
mode joins the queue's tail and marks its lamp. PRIORITY DOWN from a chair seat, nobody
holding priority in DUCK mode, suppresses every delegate entry; from any other seat it changes no holder. Every one of
them starts the cadence request timer. -/
def Obligations.KeysActOnTheFloor : Prop :=
  ∀ (s : State) (f : Flight) (n : Nat) (x : Slots), mainRunning s = true → s.ring.flight = some f → f.cell = none →
    s.ring.broken = false → f.cadence = .idle → 1 ≤ n → n ≤ 80 → present s n = true →
    let key (k : Byte) : Instr := .frameReturn f.number (cellBytes 0 n 0x23 0 [k]) x
    (∃ t, exec (key 7) s = .next (settle t) ∧ (station t n).call = true ∧ t.sup.timer = true ∧ t.sup.cadence = .full ∧
      ((station s n).call = false → (noticeAt t 8).pending = true ∧ (noticeAt t 8).value = n) ∧
      ((station s n).call = true → t.orders = s.orders) ∧ (panelOf t n).lampDirty =
        ((panelOf s n).lampDirty || !(station s n).call) ∧ t.queue = s.queue ∧ t.chan = s.chan ∧ t.hold = s.hold) ∧
    (∀ c, liveCtx s = some c → c.profile.floorMode = .chair → chairSeat s n = false → enabledSeat s n = true →
      micOpen s n = false → n ∉ s.queue → s.queue.length < 32 →
      ∃ t, exec (key 1) s = .next (settle t) ∧ t.queue = s.queue ++ [n] ∧ t.chan = s.chan ∧ t.share = s.share ∧
        t.hold = s.hold ∧ t.ctx = s.ctx ∧ t.sup.timer = true ∧ (panelOf t n).lampDirty = true) ∧
    (∀ c, liveCtx s = some c → chairSeat s n = true → s.chan.holders = [] → c.profile.priorityMode = .duck →
      FloorTables s →
      ∃ t, exec (key 2) s = .next t ∧ t.chan.holders = [n] ∧ t.chan.holdMode = some .duck ∧ t.hold = s.hold ∧
        t.ctx = s.ctx ∧ t.sup.timer = true ∧
        ∀ k < 8, ∀ e, channelAt s k = some e → e.category = .delegate →
          channelAt t k = some { e with suppressed := true }) ∧
    (chairSeat s n = false →
      ∃ t, exec (key 2) s = .next t ∧ t.chan = s.chan ∧ t.queue = s.queue ∧ t.sup.timer = true ∧
        (panelOf t n).flash = true)

/-! ### Panels, minutes and stations -/

/-- PANEL PAGE, PANEL TEXT, PANEL TILE and PANEL FILL with fields in range (and, for a tile, its front bank LOADED):
BUSY with the staging slot occupied; staged behind a running job; taken by an IDLE executor, which completes a job
without targets at once, with PANEL notice "idle", and holds the first piece of a page or a text ready for the arbiter,
which then acts. Targets out of range: RANGE. A tile whose front bank is not LOADED: STATE, before the slot is looked at. (That pieces the clip rules do
not send are passed over at once is the model's reading, log 9; so is RANGE for a set of form ALL or CHAIRS that lists
seats, log 29.) -/
def Obligations.PanelOrdersStageAndStart : Prop :=
  ∀ (h : OrderHead) (tg : TargetSet) (s : State) (i : Instr) (code : Nat), Ready i s →
    ((targetsOf tg = none →
      ((∃ p, i = .panelPage h p tg ∧ code = 0x70) ∨ (∃ c l x, i = .panelText h c l x tg ∧ code = 0x71) ∨
        (∃ k c x y, i = .panelTile h k c x y tg ∧ code = 0x72) ∨
        (∃ c x0 x1 y0 y1 k, i = .panelFill h c x0 x1 y0 y1 k tg ∧ code = 0x73)) →
      exec i s = .next (answered h code .range [] s)) ∧
    (∀ k c x y, i = .panelTile h k c x y tg → targetsOf tg ≠ none → canvasOf c ≠ none → k ≤ 95 → x ≤ 255 → y ≤ 127 →
      Bank.loaded (tileAt s k).front = false → exec i s = .next (answered h 0x72 .state [] s)) ∧
    (∀ (T : Targets) (op : PanelOp), targetsOf tg = some T →
      ((∃ p g, i = .panelPage h p tg ∧ pageOf p = some g ∧ code = 0x70 ∧ op = .page g) ∨
        (∃ c v l x, i = .panelText h c l x tg ∧ canvasOf c = some v ∧ l ≤ 7 ∧ x.length ≤ 24 ∧ code = 0x71 ∧
          op = .text v l x) ∨
        (∃ k c v x y, i = .panelTile h k c x y tg ∧ canvasOf c = some v ∧ k ≤ 95 ∧ x ≤ 255 ∧ y ≤ 127 ∧
          Bank.loaded (tileAt s k).front = true ∧ code = 0x72 ∧ op = .tile k v x y) ∨
        (∃ c v x0 x1 y0 y1 k b, i = .panelFill h c x0 x1 y0 y1 k tg ∧ canvasOf c = some v ∧ flagOf k = some b ∧
          x0 ≤ x1 ∧ x1 ≤ 255 ∧ y0 ≤ y1 ∧ y1 ≤ 127 ∧ code = 0x73 ∧ op = .fill v x0 x1 y0 y1 b)) →
      (s.panel.staged ≠ none → exec i s = .next (answered h code .busy [] s)) ∧
      (∀ j, s.panel.staged = none → s.panel.job = some j →
        exec i s = .next (answered h code .done []
          { s with panel := { s.panel with staged := some { op := op, targets := T } } })) ∧
      (s.panel.staged = none → s.panel.job = none →
        ∃ t, exec i s = .next (settle t) ∧ FloorFrame s t ∧ t.chan = s.chan ∧ t.queue = s.queue ∧ t.share = s.share ∧
          t.minutes = s.minutes ∧ t.panel.staged = none ∧ t.panel.records = s.panel.records ∧
          t.panel.tiles = s.panel.tiles ∧
          (resolveTargets s T = [] →
            t.panel.job = none ∧ (noticeAt t 11).pending = true ∧ (noticeAt t 11).event = 1 ∧
            (noticeAt t 11).value = code) ∧
          (code = 0x70 ∨ code = 0x71 → resolveTargets s T ≠ [] →
            t.panel.job = some { op := op, targets := resolveTargets s T, piece := 0, inFlight := false, misses := 0,
                                 clipped := false, built := none }) ∧
          .answer { dest := h.source, tag := h.tag, code := code, status := .done, part := h.part, parts := 1,
                    result := [] } ∈ t.sched.class2)))

/-- SET CLIP writes the window into the records its target set names and into no other; TILE LOAD puts its data into the piece
of the back bank; TILE FLIP exchanges the banks of a tile whose back bank is LOADED and that no waiting or running order
draws. Fields out of range: RANGE. (That a set of form ALL or CHAIRS which lists seats is out of range is the model's
reading, log 29.) -/
def Obligations.ClipAndTileOrders : Prop :=
  ∀ (h : OrderHead) (s : State),
    (∀ x0 x1 y0 y1 tg, Ready (.setClip h x0 x1 y0 y1 tg) s →
      (targetsOf tg = none ∨ x1 < x0 ∨ 255 < x1 ∨ y1 < y0 ∨ 127 < y1 →
        exec (.setClip h x0 x1 y0 y1 tg) s = .next (answered h 0x74 .range [] s)) ∧
      (∀ T, targetsOf tg = some T → x0 ≤ x1 → x1 ≤ 255 → y0 ≤ y1 → y1 ≤ 127 →
        ∃ records : Vector PanelRecord 80,
          exec (.setClip h x0 x1 y0 y1 tg) s = .next (answered h 0x74 .done [byte (resolveClip s T).length]
            { s with panel := { s.panel with records := records } }) ∧
          ∀ n, 1 ≤ n → n ≤ 80 →
            records[n - 1]? = some (if n ∈ resolveClip s T
              then { panelOf s n with window := { x0 := x0, x1 := x1, y0 := y0, y1 := y1 } } else panelOf s n))) ∧
    (∀ k p d, Ready (.tileLoad h k p d) s → exec (.tileLoad h k p d) s = .next
      (if k ≤ 95 ∧ p ≤ 15 then answered h 0x75 .done []
         { s with panel := { s.panel with
             tiles := s.panel.tiles.setIfInBounds k
               { tileAt s k with back := (tileAt s k).back.setIfInBounds p (some d) } } }
       else answered h 0x75 .range [] s)) ∧
    (∀ k, Ready (.tileFlip h k) s →
      (95 < k → exec (.tileFlip h k) s = .next (answered h 0x76 .range [] s)) ∧
      (k ≤ 95 → Bank.loaded (tileAt s k).back = false →
        exec (.tileFlip h k) s = .next (answered h 0x76 .state [] s)) ∧
      (k ≤ 95 → Bank.loaded (tileAt s k).back = true → tileInUse s k = true →
        exec (.tileFlip h k) s = .next (answered h 0x76 .busy [] s)) ∧
      (k ≤ 95 → Bank.loaded (tileAt s k).back = true → tileInUse s k = false →
        exec (.tileFlip h k) s = .next (answered h 0x76 .done []
          { s with panel := { s.panel with
              tiles := s.panel.tiles.setIfInBounds k
                { front := (tileAt s k).back, back := (tileAt s k).front } } })))

/-- SET LOG MODE: RANGE, NO SESSION, DONE for the mode in force, LOG FULL for a STRICT that the free entries cannot keep, and
otherwise the mode changes; with nobody queued or waiting, nothing else does. SET LOG RANGE: RANGE, STATE while a session
is LIVE, and otherwise the range is replaced whole. -/
def Obligations.LogOrders : Prop :=
  ∀ (h : OrderHead) (s : State),
    (∀ mode, Ready (.setLogMode h mode) s →
      (1 < mode → exec (.setLogMode h mode) s = .next (answered h 0x80 .range [] s)) ∧
      (mode ≤ 1 → liveCtx s = none → exec (.setLogMode h mode) s = .next (answered h 0x80 .noSession [] s)) ∧
      (∀ c m, liveCtx s = some c → (mode = 0 ∧ m = .strict ∨ mode = 1 ∧ m = .loose) →
        (c.mode = m → exec (.setLogMode h mode) s = .next (answered h 0x80 .done [] s)) ∧
        (c.mode ≠ m → m = .strict →
          32 - s.minutes.queue.length < openCount s + (if s.share.holder.isSome = true then 1 else 0) + 1 →
          exec (.setLogMode h mode) s = .next (answered h 0x80 .logFull [] s)) ∧
        (c.mode ≠ m →
          (m = .strict →
            openCount s + (if s.share.holder.isSome = true then 1 else 0) + 1 ≤ 32 - s.minutes.queue.length) →
          s.queue = [] → s.share.waiting = [] →
          exec (.setLogMode h mode) s =
            .next (answered h 0x80 .done [] { s with ctx := some { c with mode := m } })))) ∧
    (∀ r e a b m, Ready (.setLogRange h r e a b m) s →
      (1 < r ∨ 1 < e ∨ a = 0 ∨ b < a ∨ 80 < b ∨ 7 < m →
        exec (.setLogRange h r e a b m) s = .next (answered h 0x81 .range [] s)) ∧
      (r ≤ 1 → e ≤ 1 → 1 ≤ a → a ≤ b → b ≤ 80 → m ≤ 7 →
        let range : LogRange := { enabled := decide (e = 1), first := a, last := b, mask := BitVec.ofNat 3 m }
        exec (.setLogRange h r e a b m) s = .next
          (if (liveCtx s).isSome = true then answered h 0x81 .state [] s
           else if r = 0 then answered h 0x81 .done [] { s with minutes := { s.minutes with rangeA := range } }
           else answered h 0x81 .done [] { s with minutes := { s.minutes with rangeB := range } })))

/-- FORGET, CLEAR CALL, RESUME SEAT and UNBYPASS, each with its answer for every number and every state of the record.
(That they raise no STATION notice is the model's reading, log 23.) -/
def Obligations.StationOrdersChangeRecord : Prop :=
  ∀ (h : OrderHead) (n : Nat) (s : State),
    let r := station s n
    let put (x : Station) : State := { s with stn := { s.stn with records := s.stn.records.setIfInBounds (n - 1) x } }
    let cleared := put { r with call := false }
    let joining := put { r with state := .joining, missed := 0 }
    (Ready (.forget h n) s →
      (n = 0 ∨ 83 < n → exec (.forget h n) s = .next (answered h 0x11 .range [] s)) ∧
      (1 ≤ n → n ≤ 83 → r.state ≠ .vacant → r.state ≠ .silent →
        exec (.forget h n) s = .next (answered h 0x11 .state [] s)) ∧
      (1 ≤ n → n ≤ 83 → r.state = .vacant → r.call = false →
        exec (.forget h n) s = .next (answered h 0x11 .done [] (put Station.vacant))) ∧
      (1 ≤ n → n ≤ 83 → r.state = .vacant ∨ r.state = .silent →
        ∃ t, exec (.forget h n) s = .next t ∧ station t n = Station.vacant ∧
          (∀ m, m ≠ n → station t m = station s m) ∧ t.hold = s.hold ∧ t.ctx = s.ctx ∧
          .answer { dest := h.source, tag := h.tag, code := 0x11, status := .done, part := h.part, parts := 1,
                    result := [] } ∈ t.sched.class2)) ∧
    (Ready (.clearCall h n) s →
      (n = 0 ∨ 80 < n → exec (.clearCall h n) s = .next (answered h 0x16 .range [] s)) ∧
      (1 ≤ n → n ≤ 80 → exec (.clearCall h n) s = .next (answered h 0x16 .done []
        (if r.call = true then
           { cleared with panel := { s.panel with
               records := s.panel.records.setIfInBounds (n - 1) { panelOf s n with lampDirty := true } } }
         else s)))) ∧
    (Ready (.resumeSeat h n) s →
      (n = 0 ∨ 80 < n → exec (.resumeSeat h n) s = .next (answered h 0x13 .range [] s)) ∧
      (1 ≤ n → n ≤ 80 → r.state ≠ .halted → exec (.resumeSeat h n) s = .next (answered h 0x13 .state [] s)) ∧
      (1 ≤ n → n ≤ 80 → r.state = .halted → exec (.resumeSeat h n) s = .next (answered h 0x13 .done []
        (if r.heldResume = true ∨ resumeOut s n = true then s
         else if r.haltOver = true then { s with sched := { s.sched with class3 := s.sched.class3 ++ [.resume n 0] } }
         else put { r with heldResume := true })))) ∧
    (Ready (.unbypass h n) s →
      (n = 0 ∨ 83 < n → exec (.unbypass h n) s = .next (answered h 0x15 .range [] s)) ∧
      (1 ≤ n → n ≤ 83 → r.state ≠ .bypassed → exec (.unbypass h n) s = .next (answered h 0x15 .state [] s)) ∧
      (1 ≤ n → n ≤ 83 → r.state = .bypassed → exec (.unbypass h n) s = .next (answered h 0x15 .done []
        { joining with
          sched := { s.sched with class3 := s.sched.class3 ++ [.unbypass n r.identity 0] } })))
end

