-- ==== Sys2Proof/Laws/State.lean ====
section
/-! SUPPORT. Laws/State.lean: what each update of a block leaves in each field of State, true by definition. -/

namespace Sys2Proof.Machine

@[simp] theorem State.setSupply_supply (s : State) (x) : (s.setSupply x).supply = x := rfl
@[simp] theorem State.setSupply_nrstLow (s : State) (x) : (s.setSupply x).nrstLow = s.nrstLow := rfl
@[simp] theorem State.setSupply_awaited (s : State) (x) : (s.setSupply x).awaited = s.awaited := rfl
@[simp] theorem State.setSupply_hold (s : State) (x) : (s.setSupply x).hold = s.hold := rfl
@[simp] theorem State.setSupply_ring (s : State) (x) : (s.setSupply x).ring = s.ring := rfl
@[simp] theorem State.setSupply_sched (s : State) (x) : (s.setSupply x).sched = s.sched := rfl
@[simp] theorem State.setSupply_stn (s : State) (x) : (s.setSupply x).stn = s.stn := rfl
@[simp] theorem State.setSupply_guardLock (s : State) (x) : (s.setSupply x).guardLock = s.guardLock := rfl
@[simp] theorem State.setSupply_ctx (s : State) (x) : (s.setSupply x).ctx = s.ctx := rfl
@[simp] theorem State.setSupply_queue (s : State) (x) : (s.setSupply x).queue = s.queue := rfl
@[simp] theorem State.setSupply_chan (s : State) (x) : (s.setSupply x).chan = s.chan := rfl
@[simp] theorem State.setSupply_mix (s : State) (x) : (s.setSupply x).mix = s.mix := rfl
@[simp] theorem State.setSupply_share (s : State) (x) : (s.setSupply x).share = s.share := rfl
@[simp] theorem State.setSupply_panel (s : State) (x) : (s.setSupply x).panel = s.panel := rfl
@[simp] theorem State.setSupply_minutes (s : State) (x) : (s.setSupply x).minutes = s.minutes := rfl
@[simp] theorem State.setSupply_orders (s : State) (x) : (s.setSupply x).orders = s.orders := rfl
@[simp] theorem State.setSupply_sup (s : State) (x) : (s.setSupply x).sup = s.sup := rfl
@[simp] theorem State.setSupply_freeCount (s : State) (x) : (s.setSupply x).freeCount = s.freeCount := rfl
@[simp] theorem State.setSupply_pending (s : State) (x) : (s.setSupply x).pending = s.pending := rfl

@[simp] theorem State.setNrst_supply (s : State) (x) : (s.setNrst x).supply = s.supply := rfl
@[simp] theorem State.setNrst_nrstLow (s : State) (x) : (s.setNrst x).nrstLow = x := rfl
@[simp] theorem State.setNrst_awaited (s : State) (x) : (s.setNrst x).awaited = s.awaited := rfl
@[simp] theorem State.setNrst_hold (s : State) (x) : (s.setNrst x).hold = s.hold := rfl
@[simp] theorem State.setNrst_ring (s : State) (x) : (s.setNrst x).ring = s.ring := rfl
@[simp] theorem State.setNrst_sched (s : State) (x) : (s.setNrst x).sched = s.sched := rfl
@[simp] theorem State.setNrst_stn (s : State) (x) : (s.setNrst x).stn = s.stn := rfl
@[simp] theorem State.setNrst_guardLock (s : State) (x) : (s.setNrst x).guardLock = s.guardLock := rfl
@[simp] theorem State.setNrst_ctx (s : State) (x) : (s.setNrst x).ctx = s.ctx := rfl
@[simp] theorem State.setNrst_queue (s : State) (x) : (s.setNrst x).queue = s.queue := rfl
@[simp] theorem State.setNrst_chan (s : State) (x) : (s.setNrst x).chan = s.chan := rfl
@[simp] theorem State.setNrst_mix (s : State) (x) : (s.setNrst x).mix = s.mix := rfl
@[simp] theorem State.setNrst_share (s : State) (x) : (s.setNrst x).share = s.share := rfl
@[simp] theorem State.setNrst_panel (s : State) (x) : (s.setNrst x).panel = s.panel := rfl
@[simp] theorem State.setNrst_minutes (s : State) (x) : (s.setNrst x).minutes = s.minutes := rfl
@[simp] theorem State.setNrst_orders (s : State) (x) : (s.setNrst x).orders = s.orders := rfl
@[simp] theorem State.setNrst_sup (s : State) (x) : (s.setNrst x).sup = s.sup := rfl
@[simp] theorem State.setNrst_freeCount (s : State) (x) : (s.setNrst x).freeCount = s.freeCount := rfl
@[simp] theorem State.setNrst_pending (s : State) (x) : (s.setNrst x).pending = s.pending := rfl

@[simp] theorem State.setAwaited_supply (s : State) (x) : (s.setAwaited x).supply = s.supply := rfl
@[simp] theorem State.setAwaited_nrstLow (s : State) (x) : (s.setAwaited x).nrstLow = s.nrstLow := rfl
@[simp] theorem State.setAwaited_awaited (s : State) (x) : (s.setAwaited x).awaited = x := rfl
@[simp] theorem State.setAwaited_hold (s : State) (x) : (s.setAwaited x).hold = s.hold := rfl
@[simp] theorem State.setAwaited_ring (s : State) (x) : (s.setAwaited x).ring = s.ring := rfl
@[simp] theorem State.setAwaited_sched (s : State) (x) : (s.setAwaited x).sched = s.sched := rfl
@[simp] theorem State.setAwaited_stn (s : State) (x) : (s.setAwaited x).stn = s.stn := rfl
@[simp] theorem State.setAwaited_guardLock (s : State) (x) : (s.setAwaited x).guardLock = s.guardLock := rfl
@[simp] theorem State.setAwaited_ctx (s : State) (x) : (s.setAwaited x).ctx = s.ctx := rfl
@[simp] theorem State.setAwaited_queue (s : State) (x) : (s.setAwaited x).queue = s.queue := rfl
@[simp] theorem State.setAwaited_chan (s : State) (x) : (s.setAwaited x).chan = s.chan := rfl
@[simp] theorem State.setAwaited_mix (s : State) (x) : (s.setAwaited x).mix = s.mix := rfl
@[simp] theorem State.setAwaited_share (s : State) (x) : (s.setAwaited x).share = s.share := rfl
@[simp] theorem State.setAwaited_panel (s : State) (x) : (s.setAwaited x).panel = s.panel := rfl
@[simp] theorem State.setAwaited_minutes (s : State) (x) : (s.setAwaited x).minutes = s.minutes := rfl
@[simp] theorem State.setAwaited_orders (s : State) (x) : (s.setAwaited x).orders = s.orders := rfl
@[simp] theorem State.setAwaited_sup (s : State) (x) : (s.setAwaited x).sup = s.sup := rfl
@[simp] theorem State.setAwaited_freeCount (s : State) (x) : (s.setAwaited x).freeCount = s.freeCount := rfl
@[simp] theorem State.setAwaited_pending (s : State) (x) : (s.setAwaited x).pending = s.pending := rfl

@[simp] theorem State.setHold_supply (s : State) (x) : (s.setHold x).supply = s.supply := rfl
@[simp] theorem State.setHold_nrstLow (s : State) (x) : (s.setHold x).nrstLow = s.nrstLow := rfl
@[simp] theorem State.setHold_awaited (s : State) (x) : (s.setHold x).awaited = s.awaited := rfl
@[simp] theorem State.setHold_hold (s : State) (x) : (s.setHold x).hold = x := rfl
@[simp] theorem State.setHold_ring (s : State) (x) : (s.setHold x).ring = s.ring := rfl
@[simp] theorem State.setHold_sched (s : State) (x) : (s.setHold x).sched = s.sched := rfl
@[simp] theorem State.setHold_stn (s : State) (x) : (s.setHold x).stn = s.stn := rfl
@[simp] theorem State.setHold_guardLock (s : State) (x) : (s.setHold x).guardLock = s.guardLock := rfl
@[simp] theorem State.setHold_ctx (s : State) (x) : (s.setHold x).ctx = s.ctx := rfl
@[simp] theorem State.setHold_queue (s : State) (x) : (s.setHold x).queue = s.queue := rfl
@[simp] theorem State.setHold_chan (s : State) (x) : (s.setHold x).chan = s.chan := rfl
@[simp] theorem State.setHold_mix (s : State) (x) : (s.setHold x).mix = s.mix := rfl
@[simp] theorem State.setHold_share (s : State) (x) : (s.setHold x).share = s.share := rfl
@[simp] theorem State.setHold_panel (s : State) (x) : (s.setHold x).panel = s.panel := rfl
@[simp] theorem State.setHold_minutes (s : State) (x) : (s.setHold x).minutes = s.minutes := rfl
@[simp] theorem State.setHold_orders (s : State) (x) : (s.setHold x).orders = s.orders := rfl
@[simp] theorem State.setHold_sup (s : State) (x) : (s.setHold x).sup = s.sup := rfl
@[simp] theorem State.setHold_freeCount (s : State) (x) : (s.setHold x).freeCount = s.freeCount := rfl
@[simp] theorem State.setHold_pending (s : State) (x) : (s.setHold x).pending = s.pending := rfl

@[simp] theorem State.setRing_supply (s : State) (x) : (s.setRing x).supply = s.supply := rfl
@[simp] theorem State.setRing_nrstLow (s : State) (x) : (s.setRing x).nrstLow = s.nrstLow := rfl
@[simp] theorem State.setRing_awaited (s : State) (x) : (s.setRing x).awaited = s.awaited := rfl
@[simp] theorem State.setRing_hold (s : State) (x) : (s.setRing x).hold = s.hold := rfl
@[simp] theorem State.setRing_ring (s : State) (x) : (s.setRing x).ring = x := rfl
@[simp] theorem State.setRing_sched (s : State) (x) : (s.setRing x).sched = s.sched := rfl
@[simp] theorem State.setRing_stn (s : State) (x) : (s.setRing x).stn = s.stn := rfl
@[simp] theorem State.setRing_guardLock (s : State) (x) : (s.setRing x).guardLock = s.guardLock := rfl
@[simp] theorem State.setRing_ctx (s : State) (x) : (s.setRing x).ctx = s.ctx := rfl
@[simp] theorem State.setRing_queue (s : State) (x) : (s.setRing x).queue = s.queue := rfl
@[simp] theorem State.setRing_chan (s : State) (x) : (s.setRing x).chan = s.chan := rfl
@[simp] theorem State.setRing_mix (s : State) (x) : (s.setRing x).mix = s.mix := rfl
@[simp] theorem State.setRing_share (s : State) (x) : (s.setRing x).share = s.share := rfl
@[simp] theorem State.setRing_panel (s : State) (x) : (s.setRing x).panel = s.panel := rfl
@[simp] theorem State.setRing_minutes (s : State) (x) : (s.setRing x).minutes = s.minutes := rfl
@[simp] theorem State.setRing_orders (s : State) (x) : (s.setRing x).orders = s.orders := rfl
@[simp] theorem State.setRing_sup (s : State) (x) : (s.setRing x).sup = s.sup := rfl
@[simp] theorem State.setRing_freeCount (s : State) (x) : (s.setRing x).freeCount = s.freeCount := rfl
@[simp] theorem State.setRing_pending (s : State) (x) : (s.setRing x).pending = s.pending := rfl

@[simp] theorem State.setSched_supply (s : State) (x) : (s.setSched x).supply = s.supply := rfl
@[simp] theorem State.setSched_nrstLow (s : State) (x) : (s.setSched x).nrstLow = s.nrstLow := rfl
@[simp] theorem State.setSched_awaited (s : State) (x) : (s.setSched x).awaited = s.awaited := rfl
@[simp] theorem State.setSched_hold (s : State) (x) : (s.setSched x).hold = s.hold := rfl
@[simp] theorem State.setSched_ring (s : State) (x) : (s.setSched x).ring = s.ring := rfl
@[simp] theorem State.setSched_sched (s : State) (x) : (s.setSched x).sched = x := rfl
@[simp] theorem State.setSched_stn (s : State) (x) : (s.setSched x).stn = s.stn := rfl
@[simp] theorem State.setSched_guardLock (s : State) (x) : (s.setSched x).guardLock = s.guardLock := rfl
@[simp] theorem State.setSched_ctx (s : State) (x) : (s.setSched x).ctx = s.ctx := rfl
@[simp] theorem State.setSched_queue (s : State) (x) : (s.setSched x).queue = s.queue := rfl
@[simp] theorem State.setSched_chan (s : State) (x) : (s.setSched x).chan = s.chan := rfl
@[simp] theorem State.setSched_mix (s : State) (x) : (s.setSched x).mix = s.mix := rfl
@[simp] theorem State.setSched_share (s : State) (x) : (s.setSched x).share = s.share := rfl
@[simp] theorem State.setSched_panel (s : State) (x) : (s.setSched x).panel = s.panel := rfl
@[simp] theorem State.setSched_minutes (s : State) (x) : (s.setSched x).minutes = s.minutes := rfl
@[simp] theorem State.setSched_orders (s : State) (x) : (s.setSched x).orders = s.orders := rfl
@[simp] theorem State.setSched_sup (s : State) (x) : (s.setSched x).sup = s.sup := rfl
@[simp] theorem State.setSched_freeCount (s : State) (x) : (s.setSched x).freeCount = s.freeCount := rfl
@[simp] theorem State.setSched_pending (s : State) (x) : (s.setSched x).pending = s.pending := rfl

@[simp] theorem State.setStn_supply (s : State) (x) : (s.setStn x).supply = s.supply := rfl
@[simp] theorem State.setStn_nrstLow (s : State) (x) : (s.setStn x).nrstLow = s.nrstLow := rfl
@[simp] theorem State.setStn_awaited (s : State) (x) : (s.setStn x).awaited = s.awaited := rfl
@[simp] theorem State.setStn_hold (s : State) (x) : (s.setStn x).hold = s.hold := rfl
@[simp] theorem State.setStn_ring (s : State) (x) : (s.setStn x).ring = s.ring := rfl
@[simp] theorem State.setStn_sched (s : State) (x) : (s.setStn x).sched = s.sched := rfl
@[simp] theorem State.setStn_stn (s : State) (x) : (s.setStn x).stn = x := rfl
@[simp] theorem State.setStn_guardLock (s : State) (x) : (s.setStn x).guardLock = s.guardLock := rfl
@[simp] theorem State.setStn_ctx (s : State) (x) : (s.setStn x).ctx = s.ctx := rfl
@[simp] theorem State.setStn_queue (s : State) (x) : (s.setStn x).queue = s.queue := rfl
@[simp] theorem State.setStn_chan (s : State) (x) : (s.setStn x).chan = s.chan := rfl
@[simp] theorem State.setStn_mix (s : State) (x) : (s.setStn x).mix = s.mix := rfl
@[simp] theorem State.setStn_share (s : State) (x) : (s.setStn x).share = s.share := rfl
@[simp] theorem State.setStn_panel (s : State) (x) : (s.setStn x).panel = s.panel := rfl
@[simp] theorem State.setStn_minutes (s : State) (x) : (s.setStn x).minutes = s.minutes := rfl
@[simp] theorem State.setStn_orders (s : State) (x) : (s.setStn x).orders = s.orders := rfl
@[simp] theorem State.setStn_sup (s : State) (x) : (s.setStn x).sup = s.sup := rfl
@[simp] theorem State.setStn_freeCount (s : State) (x) : (s.setStn x).freeCount = s.freeCount := rfl
@[simp] theorem State.setStn_pending (s : State) (x) : (s.setStn x).pending = s.pending := rfl

@[simp] theorem State.setGuardLock_supply (s : State) (x) : (s.setGuardLock x).supply = s.supply := rfl
@[simp] theorem State.setGuardLock_nrstLow (s : State) (x) : (s.setGuardLock x).nrstLow = s.nrstLow := rfl
@[simp] theorem State.setGuardLock_awaited (s : State) (x) : (s.setGuardLock x).awaited = s.awaited := rfl
@[simp] theorem State.setGuardLock_hold (s : State) (x) : (s.setGuardLock x).hold = s.hold := rfl
@[simp] theorem State.setGuardLock_ring (s : State) (x) : (s.setGuardLock x).ring = s.ring := rfl
@[simp] theorem State.setGuardLock_sched (s : State) (x) : (s.setGuardLock x).sched = s.sched := rfl
@[simp] theorem State.setGuardLock_stn (s : State) (x) : (s.setGuardLock x).stn = s.stn := rfl
@[simp] theorem State.setGuardLock_guardLock (s : State) (x) : (s.setGuardLock x).guardLock = x := rfl
@[simp] theorem State.setGuardLock_ctx (s : State) (x) : (s.setGuardLock x).ctx = s.ctx := rfl
@[simp] theorem State.setGuardLock_queue (s : State) (x) : (s.setGuardLock x).queue = s.queue := rfl
@[simp] theorem State.setGuardLock_chan (s : State) (x) : (s.setGuardLock x).chan = s.chan := rfl
@[simp] theorem State.setGuardLock_mix (s : State) (x) : (s.setGuardLock x).mix = s.mix := rfl
@[simp] theorem State.setGuardLock_share (s : State) (x) : (s.setGuardLock x).share = s.share := rfl
@[simp] theorem State.setGuardLock_panel (s : State) (x) : (s.setGuardLock x).panel = s.panel := rfl
@[simp] theorem State.setGuardLock_minutes (s : State) (x) : (s.setGuardLock x).minutes = s.minutes := rfl
@[simp] theorem State.setGuardLock_orders (s : State) (x) : (s.setGuardLock x).orders = s.orders := rfl
@[simp] theorem State.setGuardLock_sup (s : State) (x) : (s.setGuardLock x).sup = s.sup := rfl
@[simp] theorem State.setGuardLock_freeCount (s : State) (x) : (s.setGuardLock x).freeCount = s.freeCount := rfl
@[simp] theorem State.setGuardLock_pending (s : State) (x) : (s.setGuardLock x).pending = s.pending := rfl

@[simp] theorem State.setCtx_supply (s : State) (x) : (s.setCtx x).supply = s.supply := rfl
@[simp] theorem State.setCtx_nrstLow (s : State) (x) : (s.setCtx x).nrstLow = s.nrstLow := rfl
@[simp] theorem State.setCtx_awaited (s : State) (x) : (s.setCtx x).awaited = s.awaited := rfl
@[simp] theorem State.setCtx_hold (s : State) (x) : (s.setCtx x).hold = s.hold := rfl
@[simp] theorem State.setCtx_ring (s : State) (x) : (s.setCtx x).ring = s.ring := rfl
@[simp] theorem State.setCtx_sched (s : State) (x) : (s.setCtx x).sched = s.sched := rfl
@[simp] theorem State.setCtx_stn (s : State) (x) : (s.setCtx x).stn = s.stn := rfl
@[simp] theorem State.setCtx_guardLock (s : State) (x) : (s.setCtx x).guardLock = s.guardLock := rfl
@[simp] theorem State.setCtx_ctx (s : State) (x) : (s.setCtx x).ctx = x := rfl
@[simp] theorem State.setCtx_queue (s : State) (x) : (s.setCtx x).queue = s.queue := rfl
@[simp] theorem State.setCtx_chan (s : State) (x) : (s.setCtx x).chan = s.chan := rfl
@[simp] theorem State.setCtx_mix (s : State) (x) : (s.setCtx x).mix = s.mix := rfl
@[simp] theorem State.setCtx_share (s : State) (x) : (s.setCtx x).share = s.share := rfl
@[simp] theorem State.setCtx_panel (s : State) (x) : (s.setCtx x).panel = s.panel := rfl
@[simp] theorem State.setCtx_minutes (s : State) (x) : (s.setCtx x).minutes = s.minutes := rfl
@[simp] theorem State.setCtx_orders (s : State) (x) : (s.setCtx x).orders = s.orders := rfl
@[simp] theorem State.setCtx_sup (s : State) (x) : (s.setCtx x).sup = s.sup := rfl
@[simp] theorem State.setCtx_freeCount (s : State) (x) : (s.setCtx x).freeCount = s.freeCount := rfl
@[simp] theorem State.setCtx_pending (s : State) (x) : (s.setCtx x).pending = s.pending := rfl

@[simp] theorem State.setQueue_supply (s : State) (x) : (s.setQueue x).supply = s.supply := rfl
@[simp] theorem State.setQueue_nrstLow (s : State) (x) : (s.setQueue x).nrstLow = s.nrstLow := rfl
@[simp] theorem State.setQueue_awaited (s : State) (x) : (s.setQueue x).awaited = s.awaited := rfl
@[simp] theorem State.setQueue_hold (s : State) (x) : (s.setQueue x).hold = s.hold := rfl
@[simp] theorem State.setQueue_ring (s : State) (x) : (s.setQueue x).ring = s.ring := rfl
@[simp] theorem State.setQueue_sched (s : State) (x) : (s.setQueue x).sched = s.sched := rfl
@[simp] theorem State.setQueue_stn (s : State) (x) : (s.setQueue x).stn = s.stn := rfl
@[simp] theorem State.setQueue_guardLock (s : State) (x) : (s.setQueue x).guardLock = s.guardLock := rfl
@[simp] theorem State.setQueue_ctx (s : State) (x) : (s.setQueue x).ctx = s.ctx := rfl
@[simp] theorem State.setQueue_queue (s : State) (x) : (s.setQueue x).queue = x := rfl
@[simp] theorem State.setQueue_chan (s : State) (x) : (s.setQueue x).chan = s.chan := rfl
@[simp] theorem State.setQueue_mix (s : State) (x) : (s.setQueue x).mix = s.mix := rfl
@[simp] theorem State.setQueue_share (s : State) (x) : (s.setQueue x).share = s.share := rfl
@[simp] theorem State.setQueue_panel (s : State) (x) : (s.setQueue x).panel = s.panel := rfl
@[simp] theorem State.setQueue_minutes (s : State) (x) : (s.setQueue x).minutes = s.minutes := rfl
@[simp] theorem State.setQueue_orders (s : State) (x) : (s.setQueue x).orders = s.orders := rfl
@[simp] theorem State.setQueue_sup (s : State) (x) : (s.setQueue x).sup = s.sup := rfl
@[simp] theorem State.setQueue_freeCount (s : State) (x) : (s.setQueue x).freeCount = s.freeCount := rfl
@[simp] theorem State.setQueue_pending (s : State) (x) : (s.setQueue x).pending = s.pending := rfl

@[simp] theorem State.setChan_supply (s : State) (x) : (s.setChan x).supply = s.supply := rfl
@[simp] theorem State.setChan_nrstLow (s : State) (x) : (s.setChan x).nrstLow = s.nrstLow := rfl
@[simp] theorem State.setChan_awaited (s : State) (x) : (s.setChan x).awaited = s.awaited := rfl
@[simp] theorem State.setChan_hold (s : State) (x) : (s.setChan x).hold = s.hold := rfl
@[simp] theorem State.setChan_ring (s : State) (x) : (s.setChan x).ring = s.ring := rfl
@[simp] theorem State.setChan_sched (s : State) (x) : (s.setChan x).sched = s.sched := rfl
@[simp] theorem State.setChan_stn (s : State) (x) : (s.setChan x).stn = s.stn := rfl
@[simp] theorem State.setChan_guardLock (s : State) (x) : (s.setChan x).guardLock = s.guardLock := rfl
@[simp] theorem State.setChan_ctx (s : State) (x) : (s.setChan x).ctx = s.ctx := rfl
@[simp] theorem State.setChan_queue (s : State) (x) : (s.setChan x).queue = s.queue := rfl
@[simp] theorem State.setChan_chan (s : State) (x) : (s.setChan x).chan = x := rfl
@[simp] theorem State.setChan_mix (s : State) (x) : (s.setChan x).mix = s.mix := rfl
@[simp] theorem State.setChan_share (s : State) (x) : (s.setChan x).share = s.share := rfl
@[simp] theorem State.setChan_panel (s : State) (x) : (s.setChan x).panel = s.panel := rfl
@[simp] theorem State.setChan_minutes (s : State) (x) : (s.setChan x).minutes = s.minutes := rfl
@[simp] theorem State.setChan_orders (s : State) (x) : (s.setChan x).orders = s.orders := rfl
@[simp] theorem State.setChan_sup (s : State) (x) : (s.setChan x).sup = s.sup := rfl
@[simp] theorem State.setChan_freeCount (s : State) (x) : (s.setChan x).freeCount = s.freeCount := rfl
@[simp] theorem State.setChan_pending (s : State) (x) : (s.setChan x).pending = s.pending := rfl

@[simp] theorem State.setMix_supply (s : State) (x) : (s.setMix x).supply = s.supply := rfl
@[simp] theorem State.setMix_nrstLow (s : State) (x) : (s.setMix x).nrstLow = s.nrstLow := rfl
@[simp] theorem State.setMix_awaited (s : State) (x) : (s.setMix x).awaited = s.awaited := rfl
@[simp] theorem State.setMix_hold (s : State) (x) : (s.setMix x).hold = s.hold := rfl
@[simp] theorem State.setMix_ring (s : State) (x) : (s.setMix x).ring = s.ring := rfl
@[simp] theorem State.setMix_sched (s : State) (x) : (s.setMix x).sched = s.sched := rfl
@[simp] theorem State.setMix_stn (s : State) (x) : (s.setMix x).stn = s.stn := rfl
@[simp] theorem State.setMix_guardLock (s : State) (x) : (s.setMix x).guardLock = s.guardLock := rfl
@[simp] theorem State.setMix_ctx (s : State) (x) : (s.setMix x).ctx = s.ctx := rfl
@[simp] theorem State.setMix_queue (s : State) (x) : (s.setMix x).queue = s.queue := rfl
@[simp] theorem State.setMix_chan (s : State) (x) : (s.setMix x).chan = s.chan := rfl
@[simp] theorem State.setMix_mix (s : State) (x) : (s.setMix x).mix = x := rfl
@[simp] theorem State.setMix_share (s : State) (x) : (s.setMix x).share = s.share := rfl
@[simp] theorem State.setMix_panel (s : State) (x) : (s.setMix x).panel = s.panel := rfl
@[simp] theorem State.setMix_minutes (s : State) (x) : (s.setMix x).minutes = s.minutes := rfl
@[simp] theorem State.setMix_orders (s : State) (x) : (s.setMix x).orders = s.orders := rfl
@[simp] theorem State.setMix_sup (s : State) (x) : (s.setMix x).sup = s.sup := rfl
@[simp] theorem State.setMix_freeCount (s : State) (x) : (s.setMix x).freeCount = s.freeCount := rfl
@[simp] theorem State.setMix_pending (s : State) (x) : (s.setMix x).pending = s.pending := rfl

@[simp] theorem State.setShare_supply (s : State) (x) : (s.setShare x).supply = s.supply := rfl
@[simp] theorem State.setShare_nrstLow (s : State) (x) : (s.setShare x).nrstLow = s.nrstLow := rfl
@[simp] theorem State.setShare_awaited (s : State) (x) : (s.setShare x).awaited = s.awaited := rfl
@[simp] theorem State.setShare_hold (s : State) (x) : (s.setShare x).hold = s.hold := rfl
@[simp] theorem State.setShare_ring (s : State) (x) : (s.setShare x).ring = s.ring := rfl
@[simp] theorem State.setShare_sched (s : State) (x) : (s.setShare x).sched = s.sched := rfl
@[simp] theorem State.setShare_stn (s : State) (x) : (s.setShare x).stn = s.stn := rfl
@[simp] theorem State.setShare_guardLock (s : State) (x) : (s.setShare x).guardLock = s.guardLock := rfl
@[simp] theorem State.setShare_ctx (s : State) (x) : (s.setShare x).ctx = s.ctx := rfl
@[simp] theorem State.setShare_queue (s : State) (x) : (s.setShare x).queue = s.queue := rfl
@[simp] theorem State.setShare_chan (s : State) (x) : (s.setShare x).chan = s.chan := rfl
@[simp] theorem State.setShare_mix (s : State) (x) : (s.setShare x).mix = s.mix := rfl
@[simp] theorem State.setShare_share (s : State) (x) : (s.setShare x).share = x := rfl
@[simp] theorem State.setShare_panel (s : State) (x) : (s.setShare x).panel = s.panel := rfl
@[simp] theorem State.setShare_minutes (s : State) (x) : (s.setShare x).minutes = s.minutes := rfl
@[simp] theorem State.setShare_orders (s : State) (x) : (s.setShare x).orders = s.orders := rfl
@[simp] theorem State.setShare_sup (s : State) (x) : (s.setShare x).sup = s.sup := rfl
@[simp] theorem State.setShare_freeCount (s : State) (x) : (s.setShare x).freeCount = s.freeCount := rfl
@[simp] theorem State.setShare_pending (s : State) (x) : (s.setShare x).pending = s.pending := rfl

@[simp] theorem State.setPanel_supply (s : State) (x) : (s.setPanel x).supply = s.supply := rfl
@[simp] theorem State.setPanel_nrstLow (s : State) (x) : (s.setPanel x).nrstLow = s.nrstLow := rfl
@[simp] theorem State.setPanel_awaited (s : State) (x) : (s.setPanel x).awaited = s.awaited := rfl
@[simp] theorem State.setPanel_hold (s : State) (x) : (s.setPanel x).hold = s.hold := rfl
@[simp] theorem State.setPanel_ring (s : State) (x) : (s.setPanel x).ring = s.ring := rfl
@[simp] theorem State.setPanel_sched (s : State) (x) : (s.setPanel x).sched = s.sched := rfl
@[simp] theorem State.setPanel_stn (s : State) (x) : (s.setPanel x).stn = s.stn := rfl
@[simp] theorem State.setPanel_guardLock (s : State) (x) : (s.setPanel x).guardLock = s.guardLock := rfl
@[simp] theorem State.setPanel_ctx (s : State) (x) : (s.setPanel x).ctx = s.ctx := rfl
@[simp] theorem State.setPanel_queue (s : State) (x) : (s.setPanel x).queue = s.queue := rfl
@[simp] theorem State.setPanel_chan (s : State) (x) : (s.setPanel x).chan = s.chan := rfl
@[simp] theorem State.setPanel_mix (s : State) (x) : (s.setPanel x).mix = s.mix := rfl
@[simp] theorem State.setPanel_share (s : State) (x) : (s.setPanel x).share = s.share := rfl
@[simp] theorem State.setPanel_panel (s : State) (x) : (s.setPanel x).panel = x := rfl
@[simp] theorem State.setPanel_minutes (s : State) (x) : (s.setPanel x).minutes = s.minutes := rfl
@[simp] theorem State.setPanel_orders (s : State) (x) : (s.setPanel x).orders = s.orders := rfl
@[simp] theorem State.setPanel_sup (s : State) (x) : (s.setPanel x).sup = s.sup := rfl
@[simp] theorem State.setPanel_freeCount (s : State) (x) : (s.setPanel x).freeCount = s.freeCount := rfl
@[simp] theorem State.setPanel_pending (s : State) (x) : (s.setPanel x).pending = s.pending := rfl

@[simp] theorem State.setMinutes_supply (s : State) (x) : (s.setMinutes x).supply = s.supply := rfl
@[simp] theorem State.setMinutes_nrstLow (s : State) (x) : (s.setMinutes x).nrstLow = s.nrstLow := rfl
@[simp] theorem State.setMinutes_awaited (s : State) (x) : (s.setMinutes x).awaited = s.awaited := rfl
@[simp] theorem State.setMinutes_hold (s : State) (x) : (s.setMinutes x).hold = s.hold := rfl
@[simp] theorem State.setMinutes_ring (s : State) (x) : (s.setMinutes x).ring = s.ring := rfl
@[simp] theorem State.setMinutes_sched (s : State) (x) : (s.setMinutes x).sched = s.sched := rfl
@[simp] theorem State.setMinutes_stn (s : State) (x) : (s.setMinutes x).stn = s.stn := rfl
@[simp] theorem State.setMinutes_guardLock (s : State) (x) : (s.setMinutes x).guardLock = s.guardLock := rfl
@[simp] theorem State.setMinutes_ctx (s : State) (x) : (s.setMinutes x).ctx = s.ctx := rfl
@[simp] theorem State.setMinutes_queue (s : State) (x) : (s.setMinutes x).queue = s.queue := rfl
@[simp] theorem State.setMinutes_chan (s : State) (x) : (s.setMinutes x).chan = s.chan := rfl
@[simp] theorem State.setMinutes_mix (s : State) (x) : (s.setMinutes x).mix = s.mix := rfl
@[simp] theorem State.setMinutes_share (s : State) (x) : (s.setMinutes x).share = s.share := rfl
@[simp] theorem State.setMinutes_panel (s : State) (x) : (s.setMinutes x).panel = s.panel := rfl
@[simp] theorem State.setMinutes_minutes (s : State) (x) : (s.setMinutes x).minutes = x := rfl
@[simp] theorem State.setMinutes_orders (s : State) (x) : (s.setMinutes x).orders = s.orders := rfl
@[simp] theorem State.setMinutes_sup (s : State) (x) : (s.setMinutes x).sup = s.sup := rfl
@[simp] theorem State.setMinutes_freeCount (s : State) (x) : (s.setMinutes x).freeCount = s.freeCount := rfl
@[simp] theorem State.setMinutes_pending (s : State) (x) : (s.setMinutes x).pending = s.pending := rfl

@[simp] theorem State.setOrders_supply (s : State) (x) : (s.setOrders x).supply = s.supply := rfl
@[simp] theorem State.setOrders_nrstLow (s : State) (x) : (s.setOrders x).nrstLow = s.nrstLow := rfl
@[simp] theorem State.setOrders_awaited (s : State) (x) : (s.setOrders x).awaited = s.awaited := rfl
@[simp] theorem State.setOrders_hold (s : State) (x) : (s.setOrders x).hold = s.hold := rfl
@[simp] theorem State.setOrders_ring (s : State) (x) : (s.setOrders x).ring = s.ring := rfl
@[simp] theorem State.setOrders_sched (s : State) (x) : (s.setOrders x).sched = s.sched := rfl
@[simp] theorem State.setOrders_stn (s : State) (x) : (s.setOrders x).stn = s.stn := rfl
@[simp] theorem State.setOrders_guardLock (s : State) (x) : (s.setOrders x).guardLock = s.guardLock := rfl
@[simp] theorem State.setOrders_ctx (s : State) (x) : (s.setOrders x).ctx = s.ctx := rfl
@[simp] theorem State.setOrders_queue (s : State) (x) : (s.setOrders x).queue = s.queue := rfl
@[simp] theorem State.setOrders_chan (s : State) (x) : (s.setOrders x).chan = s.chan := rfl
@[simp] theorem State.setOrders_mix (s : State) (x) : (s.setOrders x).mix = s.mix := rfl
@[simp] theorem State.setOrders_share (s : State) (x) : (s.setOrders x).share = s.share := rfl
@[simp] theorem State.setOrders_panel (s : State) (x) : (s.setOrders x).panel = s.panel := rfl
@[simp] theorem State.setOrders_minutes (s : State) (x) : (s.setOrders x).minutes = s.minutes := rfl
@[simp] theorem State.setOrders_orders (s : State) (x) : (s.setOrders x).orders = x := rfl
@[simp] theorem State.setOrders_sup (s : State) (x) : (s.setOrders x).sup = s.sup := rfl
@[simp] theorem State.setOrders_freeCount (s : State) (x) : (s.setOrders x).freeCount = s.freeCount := rfl
@[simp] theorem State.setOrders_pending (s : State) (x) : (s.setOrders x).pending = s.pending := rfl

@[simp] theorem State.setSup_supply (s : State) (x) : (s.setSup x).supply = s.supply := rfl
@[simp] theorem State.setSup_nrstLow (s : State) (x) : (s.setSup x).nrstLow = s.nrstLow := rfl
@[simp] theorem State.setSup_awaited (s : State) (x) : (s.setSup x).awaited = s.awaited := rfl
@[simp] theorem State.setSup_hold (s : State) (x) : (s.setSup x).hold = s.hold := rfl
@[simp] theorem State.setSup_ring (s : State) (x) : (s.setSup x).ring = s.ring := rfl
@[simp] theorem State.setSup_sched (s : State) (x) : (s.setSup x).sched = s.sched := rfl
@[simp] theorem State.setSup_stn (s : State) (x) : (s.setSup x).stn = s.stn := rfl
@[simp] theorem State.setSup_guardLock (s : State) (x) : (s.setSup x).guardLock = s.guardLock := rfl
@[simp] theorem State.setSup_ctx (s : State) (x) : (s.setSup x).ctx = s.ctx := rfl
@[simp] theorem State.setSup_queue (s : State) (x) : (s.setSup x).queue = s.queue := rfl
@[simp] theorem State.setSup_chan (s : State) (x) : (s.setSup x).chan = s.chan := rfl
@[simp] theorem State.setSup_mix (s : State) (x) : (s.setSup x).mix = s.mix := rfl
@[simp] theorem State.setSup_share (s : State) (x) : (s.setSup x).share = s.share := rfl
@[simp] theorem State.setSup_panel (s : State) (x) : (s.setSup x).panel = s.panel := rfl
@[simp] theorem State.setSup_minutes (s : State) (x) : (s.setSup x).minutes = s.minutes := rfl
@[simp] theorem State.setSup_orders (s : State) (x) : (s.setSup x).orders = s.orders := rfl
@[simp] theorem State.setSup_sup (s : State) (x) : (s.setSup x).sup = x := rfl
@[simp] theorem State.setSup_freeCount (s : State) (x) : (s.setSup x).freeCount = s.freeCount := rfl
@[simp] theorem State.setSup_pending (s : State) (x) : (s.setSup x).pending = s.pending := rfl

@[simp] theorem State.setFree_supply (s : State) (x) : (s.setFree x).supply = s.supply := rfl
@[simp] theorem State.setFree_nrstLow (s : State) (x) : (s.setFree x).nrstLow = s.nrstLow := rfl
@[simp] theorem State.setFree_awaited (s : State) (x) : (s.setFree x).awaited = s.awaited := rfl
@[simp] theorem State.setFree_hold (s : State) (x) : (s.setFree x).hold = s.hold := rfl
@[simp] theorem State.setFree_ring (s : State) (x) : (s.setFree x).ring = s.ring := rfl
@[simp] theorem State.setFree_sched (s : State) (x) : (s.setFree x).sched = s.sched := rfl
@[simp] theorem State.setFree_stn (s : State) (x) : (s.setFree x).stn = s.stn := rfl
@[simp] theorem State.setFree_guardLock (s : State) (x) : (s.setFree x).guardLock = s.guardLock := rfl
@[simp] theorem State.setFree_ctx (s : State) (x) : (s.setFree x).ctx = s.ctx := rfl
@[simp] theorem State.setFree_queue (s : State) (x) : (s.setFree x).queue = s.queue := rfl
@[simp] theorem State.setFree_chan (s : State) (x) : (s.setFree x).chan = s.chan := rfl
@[simp] theorem State.setFree_mix (s : State) (x) : (s.setFree x).mix = s.mix := rfl
@[simp] theorem State.setFree_share (s : State) (x) : (s.setFree x).share = s.share := rfl
@[simp] theorem State.setFree_panel (s : State) (x) : (s.setFree x).panel = s.panel := rfl
@[simp] theorem State.setFree_minutes (s : State) (x) : (s.setFree x).minutes = s.minutes := rfl
@[simp] theorem State.setFree_orders (s : State) (x) : (s.setFree x).orders = s.orders := rfl
@[simp] theorem State.setFree_sup (s : State) (x) : (s.setFree x).sup = s.sup := rfl
@[simp] theorem State.setFree_freeCount (s : State) (x) : (s.setFree x).freeCount = x := rfl
@[simp] theorem State.setFree_pending (s : State) (x) : (s.setFree x).pending = s.pending := rfl

@[simp] theorem State.setPending_supply (s : State) (x) : (s.setPending x).supply = s.supply := rfl
@[simp] theorem State.setPending_nrstLow (s : State) (x) : (s.setPending x).nrstLow = s.nrstLow := rfl
@[simp] theorem State.setPending_awaited (s : State) (x) : (s.setPending x).awaited = s.awaited := rfl
@[simp] theorem State.setPending_hold (s : State) (x) : (s.setPending x).hold = s.hold := rfl
@[simp] theorem State.setPending_ring (s : State) (x) : (s.setPending x).ring = s.ring := rfl
@[simp] theorem State.setPending_sched (s : State) (x) : (s.setPending x).sched = s.sched := rfl
@[simp] theorem State.setPending_stn (s : State) (x) : (s.setPending x).stn = s.stn := rfl
@[simp] theorem State.setPending_guardLock (s : State) (x) : (s.setPending x).guardLock = s.guardLock := rfl
@[simp] theorem State.setPending_ctx (s : State) (x) : (s.setPending x).ctx = s.ctx := rfl
@[simp] theorem State.setPending_queue (s : State) (x) : (s.setPending x).queue = s.queue := rfl
@[simp] theorem State.setPending_chan (s : State) (x) : (s.setPending x).chan = s.chan := rfl
@[simp] theorem State.setPending_mix (s : State) (x) : (s.setPending x).mix = s.mix := rfl
@[simp] theorem State.setPending_share (s : State) (x) : (s.setPending x).share = s.share := rfl
@[simp] theorem State.setPending_panel (s : State) (x) : (s.setPending x).panel = s.panel := rfl
@[simp] theorem State.setPending_minutes (s : State) (x) : (s.setPending x).minutes = s.minutes := rfl
@[simp] theorem State.setPending_orders (s : State) (x) : (s.setPending x).orders = s.orders := rfl
@[simp] theorem State.setPending_sup (s : State) (x) : (s.setPending x).sup = s.sup := rfl
@[simp] theorem State.setPending_freeCount (s : State) (x) : (s.setPending x).freeCount = s.freeCount := rfl
@[simp] theorem State.setPending_pending (s : State) (x) : (s.setPending x).pending = x := rfl

end Sys2Proof.Machine
end

