-- ==== Sys2Proof/Laws/Frames.lean ====
section
/-! SUPPORT. Laws/Frames.lean: the floor's operations leave the other blocks alone (FloorFrame), one lemma for each shared
operation, cited instead of unfolding it. -/

namespace Sys2Proof.Machine

theorem FloorFrame.refl (s : State) : FloorFrame s s := by simp [FloorFrame]

theorem FloorFrame.trans {s t u : State} (a : FloorFrame s t) (b : FloorFrame t u) : FloorFrame s u := by
  simp only [FloorFrame] at *
  simp_all

/-- Two states that agree on the other blocks. -/
theorem FloorFrame.ite {s t u : State} {c : Prop} [Decidable c] (a : FloorFrame s t) (b : FloorFrame s u) :
    FloorFrame s (if c then t else u) := by
  split <;> assumption

theorem FloorFrame.foldl {α : Type} {f : State → α → State} (hf : ∀ s x, FloorFrame s (f s x)) (l : List α) (s : State) :
    FloorFrame s (l.foldl f s) := by
  induction l generalizing s with
  | nil => exact .refl s
  | cons x l ih => exact (hf s x).trans (ih (f s x))

/-! ### Updates -/

theorem setSched_floorFrame (s : State) (x) : FloorFrame s (s.setSched x) := by simp [FloorFrame]
theorem setQueue_floorFrame (s : State) (x) : FloorFrame s (s.setQueue x) := by simp [FloorFrame]
theorem setChan_floorFrame (s : State) (x) : FloorFrame s (s.setChan x) := by simp [FloorFrame]
theorem setShare_floorFrame (s : State) (x) : FloorFrame s (s.setShare x) := by simp [FloorFrame]
theorem setPanel_floorFrame (s : State) (x) : FloorFrame s (s.setPanel x) := by simp [FloorFrame]
theorem setMinutes_floorFrame (s : State) (x) : FloorFrame s (s.setMinutes x) := by simp [FloorFrame]
theorem setOrders_floorFrame (s : State) (x) : FloorFrame s (s.setOrders x) := by simp [FloorFrame]

theorem setPanelOf_floorFrame (n : Nat) (r : PanelRecord) (s : State) : FloorFrame s (setPanelOf n r s) := by
  unfold setPanelOf
  exact .ite (.refl s) (setPanel_floorFrame s _)

theorem mapPanels_floorFrame (f : PanelRecord → PanelRecord) (s : State) : FloorFrame s (mapPanels f s) :=
  setPanel_floorFrame s _

theorem setChannel_floorFrame (c : Nat) (e : Option Channel) (s : State) : FloorFrame s (setChannel c e s) :=
  setChan_floorFrame s _

theorem setNotice_floorFrame (n : Nat) (x : Notice) (s : State) : FloorFrame s (setNotice n x s) := by
  unfold setNotice
  exact .ite (.refl s) (setOrders_floorFrame s _)

/-! ### Offers, notices, marks and minutes -/

theorem offerMark_floorFrame (m : Mark) (s : State) : FloorFrame s (offerMark m s) := by
  unfold offerMark
  exact .ite (.refl s) (setSched_floorFrame s _)

theorem offerAlert_floorFrame (s : State) : FloorFrame s (offerAlert s) := by
  unfold offerAlert
  exact .ite ((setOrders_floorFrame s _).trans (setSched_floorFrame _ _)) (.refl s)

theorem raise_floorFrame (c : Cause) (event value : Nat) (s : State) : FloorFrame s (raise c event value s) := by
  unfold raise
  exact .ite ((setNotice_floorFrame _ _ s).trans (offerAlert_floorFrame _)) (setNotice_floorFrame _ _ s)

theorem markLamp_floorFrame (n : Nat) (s : State) : FloorFrame s (markLamp n s) := setPanelOf_floorFrame n _ s

theorem markLists_floorFrame (p : List Page) (s : State) : FloorFrame s (markLists p s) := mapPanels_floorFrame _ s

theorem flash_floorFrame (n : Nat) (s : State) : FloorFrame s (flash n s) := by
  unfold flash
  exact .ite (setPanelOf_floorFrame n _ s) (.refl s)

theorem offerMinute_floorFrame (s : State) : FloorFrame s (offerMinute s) := by
  unfold offerMinute
  split
  · exact .refl s
  · exact .ite ((setMinutes_floorFrame s _).trans (setSched_floorFrame _ _)) (.refl s)

theorem appendRecord_floorFrame (r : RecRequest) (s : State) : FloorFrame s (appendRecord r s) :=
  (setMinutes_floorFrame s _).trans (offerMinute_floorFrame _)

theorem dropRecord_floorFrame (k : RecKind) (s : State) : FloorFrame s (dropRecord k s) := by
  unfold dropRecord
  exact .ite ((setMinutes_floorFrame s _).trans (raise_floorFrame _ _ _ _)) (setMinutes_floorFrame s _)

theorem fitGap_floorFrame (k : RecKind) (s : State) : FloorFrame s (fitGap k s) := by
  unfold fitGap
  exact .ite ((appendRecord_floorFrame _ s).trans (setMinutes_floorFrame _ _)) (.refl s)

theorem admitRecord_floorFrame (r : RecRequest) (s : State) : FloorFrame s (admitRecord r s) := by
  unfold admitRecord
  exact .ite (.refl s) (.ite ((fitGap_floorFrame _ s).trans (appendRecord_floorFrame _ _)) (dropRecord_floorFrame _ s))

/-! ### The share controller -/

theorem leaveWaiting_floorFrame (n : Nat) (s : State) : FloorFrame s (leaveWaiting n s) := setShare_floorFrame s _

theorem grantLane_floorFrame (n : Nat) (cause : Reason) (s : State) : FloorFrame s (grantLane n cause s) := by
  unfold grantLane
  exact ((((((setShare_floorFrame s _).trans (leaveWaiting_floorFrame n _)).trans (admitRecord_floorFrame _ _)).trans
    (offerMark_floorFrame _ _)).trans (offerMark_floorFrame _ _)).trans (markLists_floorFrame _ _))

theorem handoverGo_floorFrame (l : List Nat) (s : State) : FloorFrame s (handoverGo l s) := by
  induction l generalizing s with
  | nil => exact .refl s
  | cons n l ih =>
      unfold handoverGo
      exact .ite ((leaveWaiting_floorFrame n s).trans (ih _))
        (.ite (grantLane_floorFrame n _ s)
          (.ite (.refl s) ((setShare_floorFrame s _).trans (raise_floorFrame _ _ _ _))))

theorem handover_floorFrame (s : State) : FloorFrame s (handover s) := by
  unfold handover
  exact .ite (handoverGo_floorFrame _ s) (.refl s)

theorem endShareOnly_floorFrame (reason : Reason) (s : State) : FloorFrame s (endShareOnly reason s) := by
  unfold endShareOnly
  split
  · exact .refl s
  · exact ((((admitRecord_floorFrame _ s).trans (setShare_floorFrame _ _)).trans (offerMark_floorFrame _ _)).trans
      (offerMark_floorFrame _ _)).trans (markLists_floorFrame _ _)

theorem endShare_floorFrame (reason : Reason) (s : State) : FloorFrame s (endShare reason s) := by
  unfold endShare
  split
  · exact .refl s
  · exact (endShareOnly_floorFrame reason s).trans (handover_floorFrame _)

theorem startGrace_floorFrame (s : State) : FloorFrame s (startGrace s) := by
  unfold startGrace
  split
  · exact .ite (endShare_floorFrame _ s) (setShare_floorFrame s _)
  · exact .refl s

theorem shareMicClosed_floorFrame (n : Nat) (s : State) : FloorFrame s (shareMicClosed n s) := by
  unfold shareMicClosed
  exact .ite (startGrace_floorFrame s) (.refl s)

theorem shareMicOpened_floorFrame (n : Nat) (s : State) : FloorFrame s (shareMicOpened n s) := by
  unfold shareMicOpened
  exact .ite (setShare_floorFrame s _) (.refl s)

theorem shareLeave_floorFrame (n : Nat) (reason : Reason) (s : State) : FloorFrame s (shareLeave n reason s) := by
  unfold shareLeave
  exact FloorFrame.trans (.ite (endShare_floorFrame reason s) (.refl s)) (leaveWaiting_floorFrame n _)

theorem keyShare_floorFrame (n : Nat) (s : State) : FloorFrame s (keyShare n s) := by
  unfold keyShare
  exact .ite (endShare_floorFrame _ s) (.ite (leaveWaiting_floorFrame n s) (.ite (flash_floorFrame n s)
    (.ite (.ite (grantLane_floorFrame n _ s) ((flash_floorFrame n s).trans (raise_floorFrame _ _ _ _)))
      (.ite (flash_floorFrame n s) (setShare_floorFrame s _)))))

/-! ### The channel allocator and the queue -/

theorem queueLeave_floorFrame (n : Nat) (s : State) : FloorFrame s (queueLeave n s) := by
  unfold queueLeave
  refine FloorFrame.trans ?_ (markLists_floorFrame _ _)
  have h := (setQueue_floorFrame s (s.queue.erase n)).trans (setChan_floorFrame _
    { s.chan with deferred := if s.chan.deferred = some n then none else s.chan.deferred })
  dsimp only
  split
  · exact h.trans (markLamp_floorFrame _ _)
  · exact h

theorem openMic_floorFrame (n : Nat) (cat : Category) (cause : Reason) (s : State) :
    FloorFrame s (openMic n cat cause s) := by
  unfold openMic
  split
  · refine FloorFrame.trans ?_ (shareMicOpened_floorFrame n _)
    refine FloorFrame.trans ?_ (markLists_floorFrame _ _)
    refine FloorFrame.trans ?_ (markLamp_floorFrame _ _)
    refine FloorFrame.trans ?_ (offerMark_floorFrame _ _)
    refine FloorFrame.trans ?_ (admitRecord_floorFrame _ _)
    have left (t : State) (h : FloorFrame s t) : FloorFrame s (if t.queue.contains n then queueLeave n t else t) :=
      .ite (h.trans (queueLeave_floorFrame n t)) h
    exact left _ ((setChannel_floorFrame _ _ s).trans (setChan_floorFrame _ _))
  · exact .refl s

theorem tryOpen_floorFrame (n : Nat) (cat : Category) (cause : Reason) (s : State) :
    FloorFrame s (tryOpen n cat cause s).2 := by
  unfold tryOpen
  split
  · exact openMic_floorFrame n cat cause s
  · exact .refl s

theorem closeEntry_floorFrame (n : Nat) (reason : Reason) (s : State) : FloorFrame s (closeEntry n reason s) := by
  unfold closeEntry
  split
  · exact .refl s
  · split
    · exact .refl s
    · refine FloorFrame.trans ?_ (markLists_floorFrame _ _)
      refine FloorFrame.trans ?_ (markLamp_floorFrame _ _)
      refine FloorFrame.trans ?_ (offerMark_floorFrame _ _)
      exact ((admitRecord_floorFrame _ s).trans (setChannel_floorFrame _ _ _)).trans (setChan_floorFrame _ _)

theorem closeMicOnly_floorFrame (n : Nat) (reason : Reason) (s : State) : FloorFrame s (closeMicOnly n reason s) := by
  unfold closeMicOnly
  split
  · exact .refl s
  · exact (closeEntry_floorFrame n reason s).trans (shareMicClosed_floorFrame n _)

theorem autoOpenGo_floorFrame (fuel : Nat) (s : State) : FloorFrame s (autoOpenGo fuel s) := by
  induction fuel generalizing s with
  | zero => exact .refl s
  | succ fuel ih =>
      unfold autoOpenGo
      split
      · exact .refl s
      · exact .ite (.refl s) (.ite ((openMic_floorFrame _ _ _ s).trans (ih _))
          (.ite (.refl s) ((setChan_floorFrame s _).trans (raise_floorFrame _ _ _ _))))

theorem autoOpen_floorFrame (s : State) : FloorFrame s (autoOpen s) := by
  unfold autoOpen
  exact .ite (autoOpenGo_floorFrame _ s) (.refl s)

theorem closeMic_floorFrame (n : Nat) (reason : Reason) (s : State) : FloorFrame s (closeMic n reason s) := by
  unfold closeMic
  split
  · exact .refl s
  · exact (closeMicOnly_floorFrame n reason s).trans (autoOpen_floorFrame _)

theorem replaceMic_floorFrame (n : Nat) (closing opening : Reason) (s : State) :
    FloorFrame s (replaceMic n closing opening s).2 := by
  unfold replaceMic
  split
  · split
    · exact .ite
        (((closeEntry_floorFrame _ _ s).trans (openMic_floorFrame _ _ _ _)).trans (shareMicClosed_floorFrame _ _))
        ((closeMicOnly_floorFrame _ _ s).trans (openMic_floorFrame _ _ _ _))
    · exact .refl s
  · exact .refl s

theorem suppressAll_floorFrame (on : Bool) (s : State) : FloorFrame s (suppressAll on s) := by
  unfold suppressAll
  dsimp only
  refine .ite (.refl s) ?_
  exact ((setChan_floorFrame s _).trans (FloorFrame.foldl (fun t _ => markLamp_floorFrame _ t) _ _)).trans
    (markLists_floorFrame _ _)

theorem releasePriority_floorFrame (n : Nat) (s : State) : FloorFrame s (releasePriority n s) := by
  unfold releasePriority
  dsimp only
  refine .ite ?_ (.refl s)
  split
  · exact (((setChan_floorFrame s _).trans (setChan_floorFrame _ _)).trans (suppressAll_floorFrame _ _)).trans
      (autoOpen_floorFrame _)
  · exact setChan_floorFrame s _

theorem withdrawOnly_floorFrame (n : Nat) (reason : Reason) (s : State) : FloorFrame s (withdrawOnly n reason s) :=
  ((queueLeave_floorFrame n s).trans (admitRecord_floorFrame _ _)).trans (markLamp_floorFrame n _)

theorem withdraw_floorFrame (n : Nat) (reason : Reason) (s : State) : FloorFrame s (withdraw n reason s) := by
  unfold withdraw
  refine .ite ?_ (.refl s)
  exact .ite ((withdrawOnly_floorFrame n reason s).trans (autoOpen_floorFrame _)) (withdrawOnly_floorFrame n reason s)

theorem joinQueue_floorFrame (n position : Nat) (cause : Reason) (s : State) :
    FloorFrame s (joinQueue n position cause s) := by
  unfold joinQueue
  refine FloorFrame.trans ?_ (markLists_floorFrame _ _)
  have h := ((setQueue_floorFrame s (s.queue.insertIdx (position - 1) n)).trans (admitRecord_floorFrame
    { kind := .request, seat := some n, reason := cause } _)).trans (markLamp_floorFrame n _)
  split
  · exact h.trans (markLamp_floorFrame _ _)
  · exact h

theorem appendSeat_floorFrame (n : Nat) (s : State) : FloorFrame s (appendSeat n s) := by
  unfold appendSeat
  exact .ite ((flash_floorFrame n s).trans (raise_floorFrame _ _ _ _))
    ((joinQueue_floorFrame _ _ _ s).trans (autoOpen_floorFrame _))

/-! ### The panel engine -/

theorem startJob_floorFrame (st : Staged) (s : State) : FloorFrame s (startJob st s) := setPanel_floorFrame s _

theorem settleJob_floorFrame (fuel : Nat) (s : State) : FloorFrame s (settleJob fuel s) := by
  induction fuel generalizing s with
  | zero => exact .refl s
  | succ fuel ih =>
      unfold settleJob
      split
      · exact .refl s
      · rename_i j _
        refine .ite (.refl s) ?_
        split
        rename_i targets piece clipped _
        refine .ite ?_ (setPanel_floorFrame s _)
        have done (t : State) (h : FloorFrame s t) : FloorFrame s (match t.panel.staged with
            | none => raise .panel 1 j.op.code t
            | some st => settleJob fuel (startJob st t)) := by
          split
          · exact h.trans (raise_floorFrame _ _ _ _)
          · exact h.trans ((startJob_floorFrame _ _).trans (ih _))
        exact done _ (.trans (t := if clipped then raise .panel 2 j.op.code s else s)
          (.ite (raise_floorFrame _ _ _ s) (.refl s)) (setPanel_floorFrame _ _))

theorem takeStaged_floorFrame (s : State) : FloorFrame s (takeStaged s) := by
  unfold takeStaged
  split
  · exact (startJob_floorFrame _ s).trans (settleJob_floorFrame _ _)
  · exact .refl s

theorem disownPiece_floorFrame (s : State) : FloorFrame s (disownPiece s) := by
  unfold disownPiece
  split
  · exact setSched_floorFrame s _
  · exact .refl s

theorem dropTo_floorFrame (j : Job) (s : State) : FloorFrame s (dropTo j s) :=
  .ite ((setPanel_floorFrame s _).trans (settleJob_floorFrame _ _)) (setPanel_floorFrame s _)

theorem dropTarget_floorFrame (n : Nat) (s : State) : FloorFrame s (dropTarget n s) := by
  unfold dropTarget
  split
  · exact .refl s
  · exact .ite (.ite ((disownPiece_floorFrame s).trans (dropTo_floorFrame _ _)) (dropTo_floorFrame _ s)) (.refl s)

theorem panelDepart_floorFrame (n : Nat) (s : State) : FloorFrame s (panelDepart n s) :=
  (setPanelOf_floorFrame n _ s).trans (dropTarget_floorFrame n _)

/-! ### A departure -/

theorem depart_floorFrame (n : Nat) (s : State) : FloorFrame s (depart n s) := by
  unfold depart
  refine FloorFrame.ite ?_ (FloorFrame.ite (setMinutes_floorFrame s _) (.refl s))
  exact ((((shareLeave_floorFrame n _ s).trans (closeMic_floorFrame n _ _)).trans (withdraw_floorFrame n _ _)).trans
    (panelDepart_floorFrame n _)).trans (releasePriority_floorFrame n _)

end Sys2Proof.Machine
end

