-- ==== Sys2Proof/Laws/Tables.lean ====
section
/-! SUPPORT. Laws/Tables.lean: what a table reads as after a write of one of its entries, and what the shared offers and
raises leave behind them. -/

namespace Sys2Proof.Machine

/-! ### One entry written -/

theorem station_setStation_self {n : Nat} (h : 1 ≤ n ∧ n ≤ 83) (r : Station) (s : State) :
    station (setStation n r s) n = r := by
  have h0 : n ≠ 0 := by omega
  have hb : n - 1 < 83 := by omega
  simp [station, setStation, h0, hb]

theorem station_setStation_ne {n m : Nat} (h : m ≠ n) (r : Station) (s : State) :
    station (setStation n r s) m = station s m := by
  by_cases hn : n = 0
  · simp [setStation, hn]
  · by_cases hm : m = 0
    · simp [station, hm]
    · have : n - 1 ≠ m - 1 := by omega
      simp [station, setStation, hn, hm, this]

theorem panelOf_setPanelOf_self {n : Nat} (h : 1 ≤ n ∧ n ≤ 80) (r : PanelRecord) (s : State) :
    panelOf (setPanelOf n r s) n = r := by
  have h0 : n ≠ 0 := by omega
  have hb : n - 1 < 80 := by omega
  simp [panelOf, setPanelOf, h0, hb]

theorem panelOf_setPanelOf_ne {n m : Nat} (h : m ≠ n) (r : PanelRecord) (s : State) :
    panelOf (setPanelOf n r s) m = panelOf s m := by
  by_cases hn : n = 0
  · simp [setPanelOf, hn]
  · by_cases hm : m = 0
    · simp [panelOf, hm]
    · have : n - 1 ≠ m - 1 := by omega
      simp [panelOf, setPanelOf, hn, hm, this]

theorem channelAt_setChannel_self {k : Nat} (h : k < 8) (e : Option Channel) (s : State) :
    channelAt (setChannel k e s) k = e := by
  simp [channelAt, setChannel, h]

theorem channelAt_setChannel_ne {k j : Nat} (h : j ≠ k) (e : Option Channel) (s : State) :
    channelAt (setChannel k e s) j = channelAt s j := by
  simp [channelAt, setChannel, Ne.symm h]

theorem noticeAt_setNotice_self {n : Nat} (h : 2 ≤ n ∧ n ≤ 11) (x : Notice) (s : State) :
    noticeAt (setNotice n x s) n = x := by
  have h0 : ¬n < 2 := by omega
  have hb : n - 2 < 10 := by omega
  simp [noticeAt, setNotice, h0, hb]

theorem noticeAt_setNotice_ne {n m : Nat} (h : m ≠ n) (x : Notice) (s : State) :
    noticeAt (setNotice n x s) m = noticeAt s m := by
  by_cases hn : n < 2
  · simp [setNotice, hn]
  · by_cases hm : m < 2
    · simp [noticeAt, hm]
    · have : n - 2 ≠ m - 2 := by omega
      simp [noticeAt, setNotice, hn, hm, this]

/-! ### Offers and raises -/

theorem mem_offerMark (m : Mark) (s : State) : m ∈ (offerMark m s).sched.class1 := by
  unfold offerMark
  split
  · assumption
  · simp

theorem offerMark_keeps {m k : Mark} {s : State} (h : k ∈ s.sched.class1) : k ∈ (offerMark m s).sched.class1 := by
  unfold offerMark
  split
  · exact h
  · simp [h]

theorem noticeAt_offerAlert (s : State) (m : Nat) : noticeAt (offerAlert s) m = noticeAt s m := by
  unfold offerAlert
  split <;> rfl

theorem Cause.num_range (c : Cause) : 2 ≤ c.num ∧ c.num ≤ 11 := by cases c <;> decide

/-- R190: the entry that a raise leaves. -/
theorem noticeAt_raise_self (c : Cause) (event value : Nat) (s : State) :
    noticeAt (raise c event value s) c.num =
      { pending := true, event := event, value := value,
        count := if (noticeAt s c.num).pending then bump 255 (noticeAt s c.num).count else 1 } := by
  unfold raise
  dsimp only
  split <;> rename_i h <;> simp only [noticeAt_offerAlert, noticeAt_setNotice_self c.num_range] <;> split <;> rfl

/-- A raise leaves every other cause alone. -/
theorem noticeAt_raise_ne (c : Cause) (event value : Nat) (s : State) {m : Nat} (h : m ≠ c.num) :
    noticeAt (raise c event value s) m = noticeAt s m := by
  unfold raise
  dsimp only
  split <;> simp only [noticeAt_offerAlert, noticeAt_setNotice_ne h]

end Sys2Proof.Machine
end

