-- ==== Sys2Proof/Laws/Arbiter.lean ====
section
/-! SUPPORT. Laws/Arbiter.lean: what the presentation arbiter leaves alone (ArbiterFrame), when it does nothing, and with it
what every command of the main domain ends with (settle). -/

namespace Sys2Proof.Machine

/-- What the arbiter leaves alone: everything but the panel engine, the presentation cell that waits, and the PANEL notice of
a job with its ALERT. -/
def ArbiterFrame (s t : State) : Prop :=
  FloorFrame s t ∧ t.queue = s.queue ∧ t.chan = s.chan ∧ t.share = s.share ∧ t.minutes = s.minutes ∧
  t.sched.class1 = s.sched.class1 ∧ t.sched.class3 = s.sched.class3 ∧ t.sched.minute = s.sched.minute ∧
  t.sched.last4 = s.sched.last4 ∧ s.sched.class2 <+: t.sched.class2 ∧ t.orders.inbound = s.orders.inbound ∧
  t.orders.starts = s.orders.starts ∧ t.orders.mask = s.orders.mask ∧ ∀ m, m ≠ 11 → noticeAt t m = noticeAt s m

theorem ArbiterFrame.refl (s : State) : ArbiterFrame s s := by simp [ArbiterFrame, FloorFrame.refl]

theorem ArbiterFrame.trans {s t u : State} (a : ArbiterFrame s t) (b : ArbiterFrame t u) : ArbiterFrame s u := by
  obtain ⟨a0, a1, a2, a3, a4, a5, a6, a7, a8, a9, a10, a11, a12, a13⟩ := a
  obtain ⟨b0, b1, b2, b3, b4, b5, b6, b7, b8, b9, b10, b11, b12, b13⟩ := b
  exact ⟨a0.trans b0, b1.trans a1, b2.trans a2, b3.trans a3, b4.trans a4, b5.trans a5, b6.trans a6, b7.trans a7,
    b8.trans a8, a9.trans b9, b10.trans a10, b11.trans a11, b12.trans a12, fun m h => (b13 m h).trans (a13 m h)⟩

theorem ArbiterFrame.ite {s t u : State} {c : Prop} [Decidable c] (a : ArbiterFrame s t) (b : ArbiterFrame s u) :
    ArbiterFrame s (if c then t else u) := by
  split <;> assumption

/-! ### What the arbiter is made of -/

theorem setPanel_arbiterFrame (s : State) (x) : ArbiterFrame s (s.setPanel x) := by
  simp [ArbiterFrame, setPanel_floorFrame, noticeAt]

theorem setPresentation_arbiterFrame (s : State) (c : Option OutCell) :
    ArbiterFrame s (s.setSched { s.sched with presentation := c }) := by
  simp [ArbiterFrame, setSched_floorFrame, noticeAt]

theorem setPanelOf_arbiterFrame (n : Nat) (r : PanelRecord) (s : State) : ArbiterFrame s (setPanelOf n r s) := by
  unfold setPanelOf
  exact .ite (.refl s) (setPanel_arbiterFrame s _)

theorem offerAlert_arbiterFrame (s : State) : ArbiterFrame s (offerAlert s) := by
  refine ⟨offerAlert_floorFrame s, ?_⟩
  unfold offerAlert
  split <;> simp [offer2, noticeAt]

theorem raise_panel_arbiterFrame (event value : Nat) (s : State) : ArbiterFrame s (raise .panel event value s) := by
  have notice (x : Notice) : ArbiterFrame s (setNotice Cause.panel.num x s) := by
    refine ⟨setNotice_floorFrame _ _ s, ?_⟩
    refine ⟨?_, ?_, ?_, ?_, ?_, ?_, ?_, ?_, ?_, ?_, ?_, ?_, fun m h => noticeAt_setNotice_ne h x s⟩ <;>
      simp [setNotice, Cause.num]
  unfold raise
  exact .ite ((notice _).trans (offerAlert_arbiterFrame _)) (notice _)

theorem settleJob_arbiterFrame (fuel : Nat) (s : State) : ArbiterFrame s (settleJob fuel s) := by
  induction fuel generalizing s with
  | zero => exact .refl s
  | succ fuel ih =>
      unfold settleJob
      split
      · exact .refl s
      · rename_i j _
        refine .ite (.refl s) ?_
        split
        rename_i targets piece clipped _
        refine .ite ?_ (setPanel_arbiterFrame s _)
        have done (t : State) (h : ArbiterFrame s t) : ArbiterFrame s (match t.panel.staged with
            | none => raise .panel 1 j.op.code t
            | some st => settleJob fuel (startJob st t)) := by
          split
          · exact h.trans (raise_panel_arbiterFrame _ _ _)
          · exact h.trans (.trans (setPanel_arbiterFrame _ _) (ih _))
        exact done _ (.trans (t := if clipped then raise .panel 2 j.op.code s else s)
          (.ite (raise_panel_arbiterFrame _ _ s) (.refl s)) (setPanel_arbiterFrame _ _))

theorem arbiterClean_arbiterFrame (s : State) : ArbiterFrame s (arbiterClean s) := by
  unfold arbiterClean
  generalize seatNumbers = l
  induction l generalizing s with
  | nil => exact .refl s
  | cons n l ih =>
      refine .trans ?_ (ih _)
      dsimp only
      exact .ite (.ite (.ite (setPanelOf_arbiterFrame n _ s) (.refl s))
        (.ite (setPanelOf_arbiterFrame n _ s) (.refl s))) (.refl s)

theorem lampPass_arbiterFrame (l : List Nat) (s : State) : ArbiterFrame s (lampPass l s).2 := by
  induction l generalizing s with
  | nil => exact .refl s
  | cons n l ih =>
      unfold lampPass
      dsimp only
      split
      · split
        · exact (setPanelOf_arbiterFrame n _ s).trans (ih _)
        · exact setPanelOf_arbiterFrame n _ s
      · exact ih s

theorem offerRefresh_arbiterFrame (n : Nat) (s : State) : ArbiterFrame s (offerRefresh n s).2 := by
  unfold offerRefresh
  dsimp only
  split <;> exact setPanelOf_arbiterFrame n _ s

theorem offerPiece_arbiterFrame (s : State) : ArbiterFrame s (offerPiece s).2 := by
  unfold offerPiece
  dsimp only
  split
  · exact .refl s
  · split
    · exact (setPanelOf_arbiterFrame _ _ s).trans (setPanel_arbiterFrame _ _)
    · exact (setPanelOf_arbiterFrame _ _ s).trans (setPanel_arbiterFrame _ _)
    · exact setPanel_arbiterFrame s _
    · split
      · exact .refl s
      · exact setPanel_arbiterFrame s _

theorem setTurn_arbiterFrame {s : State} {x : Option OutCell × State} (t : Turn) (h : ArbiterFrame s x.2) :
    ArbiterFrame s (setTurn t x).2 := h.trans (setPanel_arbiterFrame _ _)

theorem refreshTurn_arbiterFrame (s : State) : ArbiterFrame s (refreshTurn s).2 := by
  unfold refreshTurn
  split
  · exact .refl s
  · exact setTurn_arbiterFrame _ (offerRefresh_arbiterFrame _ s)

theorem pieceTurn_arbiterFrame (s : State) : ArbiterFrame s (pieceTurn s).2 := by
  have job := settleJob_arbiterFrame 3 s
  unfold pieceTurn
  dsimp only
  split
  · exact setTurn_arbiterFrame _ (job.trans (offerPiece_arbiterFrame _))
  · exact job.trans (refreshTurn_arbiterFrame _)

theorem presentationChoice_arbiterFrame (s : State) : ArbiterFrame s (presentationChoice s).2 := by
  have lamps := (arbiterClean_arbiterFrame s).trans (lampPass_arbiterFrame seatNumbers (arbiterClean s))
  unfold presentationChoice
  split
  · rename_i c t e
    rw [e] at lamps
    exact lamps
  · rename_i t e
    rw [e] at lamps
    split
    · exact lamps.trans (pieceTurn_arbiterFrame t)
    · exact lamps.trans (refreshTurn_arbiterFrame t)

/-! ### The arbiter (R167) and the end of every command -/

theorem offerPresentation_arbiterFrame (s : State) : ArbiterFrame s (offerPresentation s) := by
  have choice := presentationChoice_arbiterFrame s
  unfold offerPresentation
  generalize presentationChoice s = x at choice ⊢
  split
  · exact .refl s
  · exact choice.trans (setPresentation_arbiterFrame _ _)

/-- With a presentation cell waiting the arbiter does nothing (R167). -/
theorem offerPresentation_waiting {s : State} {c : OutCell} (h : s.sched.presentation = some c) :
    offerPresentation s = s := by
  simp [offerPresentation, h]

/-- With no seat PRESENT, no job and no cell waiting the arbiter has nothing to choose. -/
theorem offerPresentation_quiet {s : State} (hp : ∀ n, present s n = false) (hj : s.panel.job = none)
    (hc : s.sched.presentation = none) : offerPresentation s = s := by
  have clean : arbiterClean s = s := by
    unfold arbiterClean
    generalize seatNumbers = l
    induction l with
    | nil => rfl
    | cons n l ih => simpa [hp] using ih
  have lamps : lampPass seatNumbers s = (none, s) := by
    generalize seatNumbers = l
    induction l with
    | nil => rfl
    | cons n l ih => simpa [lampPass, hp] using ih
  have refresh : refreshSeat s = none := by
    unfold refreshSeat
    generalize seatNumbers = l
    simp [hp]
  have choice : presentationChoice s = (none, s) := by
    unfold presentationChoice
    rw [clean, lamps]
    simp only [piecesWait, hj, refreshTurn, refresh, Bool.false_and, Bool.false_eq_true, if_false]
  unfold offerPresentation
  simp only [hc, choice]
  rw [← hc]
  rfl

theorem settle_arbiterFrame (s : State) : ArbiterFrame s (settle s) :=
  (setPanel_arbiterFrame s _).trans (offerPresentation_arbiterFrame _)

theorem settle_floorFrame (s : State) : FloorFrame s (settle s) := (settle_arbiterFrame s).1

/-- With a presentation cell waiting a command ends with the list refresh timer alone. -/
theorem settle_waiting {s : State} {c : OutCell} (h : s.sched.presentation = some c) :
    settle s = { s with panel := { s.panel with refresh := refreshWanted s } } :=
  offerPresentation_waiting (s := setRefreshTimer s) h

/-- With no seat PRESENT, no job and no cell waiting too. -/
theorem settle_quiet {s : State} (hp : ∀ n, present s n = false) (hj : s.panel.job = none)
    (hc : s.sched.presentation = none) :
    settle s = { s with panel := { s.panel with refresh := refreshWanted s } } :=
  offerPresentation_quiet (s := setRefreshTimer s) hp hj hc

end Sys2Proof.Machine
end

