-- ==== Sys2Proof/Laws/Orders.lean ====
section
/-! SUPPORT. Laws/Orders.lean: what an order command answers, given what its owner gives back. -/

namespace Sys2Proof.Machine

/-- An order that is ready is carried out by its owner. -/
theorem runOrder_ready {i : Instr} {s : State} (hr : Ready i s) (h : OrderHead) (code : Nat) (owner : State → Reply) :
    runOrder i h code owner s = settle (carryOut h code owner s) := by
  obtain ⟨hm, hh⟩ := hr
  simp [runOrder, hm, atHead, hh]

/-- With the main domain unpowered or in reset an order command does nothing. -/
theorem runOrder_stopped {i : Instr} {s : State} (hm : mainRunning s = false) (h : OrderHead) (code : Nat)
    (owner : State → Reply) : runOrder i h code owner s = s := by
  simp [runOrder, hm]

/-- An owner's plain reply leaves the answered state. -/
theorem settle_carryOut {owner : State → Reply} {s : State} {r : Reply} (e : owner s = r) (hf : r.follow = .nothing)
    (h : OrderHead) (code : Nat) :
    settle (carryOut h code owner s) = answered h code r.status r.result r.state := by
  subst e
  simp only [carryOut, hf, followUp]
  rfl

/-- The two together, for an owner that takes the order. -/
theorem runOrder_done {i : Instr} {s : State} (hr : Ready i s) (h : OrderHead) (code : Nat) {owner : State → Reply}
    {result : List Byte} {t : State} (e : owner s = done result t) :
    runOrder i h code owner s = answered h code .done result t := by
  rw [runOrder_ready hr, settle_carryOut e rfl]
  rfl

/-- The two together, for an owner that refuses the order. -/
theorem runOrder_refused {i : Instr} {s : State} (hr : Ready i s) (h : OrderHead) (code : Nat) {owner : State → Reply}
    {status : Status} {t : State} (e : owner s = refuse status t) :
    runOrder i h code owner s = answered h code status [] t := by
  rw [runOrder_ready hr, settle_carryOut e rfl]
  rfl

/-- The two together, for a refusal that carries an id. -/
theorem runOrder_overlap {i : Instr} {s : State} (hr : Ready i s) (h : OrderHead) (code : Nat) {owner : State → Reply}
    {id : Nat} {t : State} (e : owner s = refuseOverlap id t) :
    runOrder i h code owner s = answered h code .overlap (bytes2 id) t := by
  rw [runOrder_ready hr, settle_carryOut e rfl]
  rfl

/-- What an answered order leaves alone. -/
theorem answered_fields (h : OrderHead) (code : Nat) (status : Status) (result : List Byte) (s : State) :
    (answered h code status result s).supply = s.supply ∧ (answered h code status result s).hold = s.hold ∧
    (answered h code status result s).ring = s.ring ∧ (answered h code status result s).stn = s.stn ∧
    (answered h code status result s).ctx = s.ctx ∧ (answered h code status result s).queue = s.queue ∧
    (answered h code status result s).chan = s.chan ∧ (answered h code status result s).mix = s.mix ∧
    (answered h code status result s).share = s.share ∧ (answered h code status result s).minutes = s.minutes ∧
    (answered h code status result s).sup = s.sup ∧ (answered h code status result s).pending = s.pending := by
  obtain ⟨⟨h1, _, _, h4, h5, h6, _, h8, h9, h10, _, h12⟩, q, c, x, m, _⟩ := 
    settle_arbiterFrame (withAnswer h code status result s)
  exact ⟨h1, h4, h5, h6, h8, q, c, h9, x, m, h10, h12⟩

end Sys2Proof.Machine
end

