-- ==== Sys2Proof/Laws/PerInstr.lean ====
section
/-! SUPPORT. Laws/PerInstr.lean: the family OrderShape, one lemma for each command. -/

namespace Sys2Proof.Laws.OrderShape

/-- A command has a head exactly when it has an order code, its code is one of section 10.3, and an event has no fields. -/
def Statement (i : Instr) : Prop :=
  i.head.isSome = i.orderCode.isSome ∧ (∀ c ∈ i.orderCode, c ∈ orderCodes) ∧ (i.orderCode = none → i.fieldBytes = [])

theorem of_event {i : Instr} (hh : i.head = none) (hc : i.orderCode = none) (hf : i.fieldBytes = [])
    : Statement i := by
  refine ⟨by simp [hh, hc], ?_, fun _ => hf⟩
  intro c h
  rw [hc] at h
  exact absurd h (by simp)

theorem of_order {i : Instr} (h : OrderHead) (code : Nat) (hh : i.head = some h) (hc : i.orderCode = some code)
    (hm : code ∈ orderCodes) : Statement i := by
  refine ⟨by rw [hh, hc]; rfl, ?_, fun hn => absurd (hc.symm.trans hn) (by simp)⟩
  intro c h
  rw [hc] at h
  simp only [Option.mem_def, Option.some.injEq] at h
  exact h ▸ hm

theorem frameEmit : Statement (.frameEmit) := of_event rfl rfl rfl
theorem frameReturn (number : Nat) (lane : List Byte) (slots : Slots) : Statement (.frameReturn number lane slots) :=
    of_event rfl rfl rfl
theorem frameFail : Statement (.frameFail) := of_event rfl rfl rfl
theorem probeRound : Statement (.probeRound) := of_event rfl rfl rfl
theorem haltIntervalExpiry (seat : Nat) : Statement (.haltIntervalExpiry seat) := of_event rfl rfl rfl
theorem graceExpiry : Statement (.graceExpiry) := of_event rfl rfl rfl
theorem tableTimeTick : Statement (.tableTimeTick) := of_event rfl rfl rfl
theorem speakLimitExpiry (seat : Nat) : Statement (.speakLimitExpiry seat) := of_event rfl rfl rfl
theorem flashExpiry (seat : Nat) : Statement (.flashExpiry seat) := of_event rfl rfl rfl
theorem listRefreshExpiry : Statement (.listRefreshExpiry) := of_event rfl rfl rfl
theorem cadenceTimerExpiry : Statement (.cadenceTimerExpiry) := of_event rfl rfl rfl
theorem externalPresent : Statement (.externalPresent) := of_event rfl rfl rfl
theorem externalLoss : Statement (.externalLoss) := of_event rfl rfl rfl
theorem mainsLoss : Statement (.mainsLoss) := of_event rfl rfl rfl
theorem mainsReturn (reading : BackupCond) : Statement (.mainsReturn reading) := of_event rfl rfl rfl
theorem backupLow : Statement (.backupLow) := of_event rfl rfl rfl
theorem backupOk : Statement (.backupOk) := of_event rfl rfl rfl
theorem resetLineLow : Statement (.resetLineLow) := of_event rfl rfl rfl
theorem resetLineRelease (reading : BackupCond) : Statement (.resetLineRelease reading) := of_event rfl rfl rfl
theorem restartExecute (reading : BackupCond) : Statement (.restartExecute reading) := of_event rfl rfl rfl
theorem readStation (h : OrderHead) (number : Nat) : Statement (.readStation h number) :=
    of_order h _ rfl rfl (by decide)
theorem forget (h : OrderHead) (number : Nat) : Statement (.forget h number) := of_order h _ rfl rfl (by decide)
theorem haltSeat (h : OrderHead) (number : Nat) : Statement (.haltSeat h number) :=
    of_order h _ rfl rfl (by decide)
theorem resumeSeat (h : OrderHead) (number : Nat) : Statement (.resumeSeat h number) :=
    of_order h _ rfl rfl (by decide)
theorem bypass (h : OrderHead) (number : Nat) : Statement (.bypass h number) := of_order h _ rfl rfl (by decide)
theorem unbypass (h : OrderHead) (number : Nat) : Statement (.unbypass h number) :=
    of_order h _ rfl rfl (by decide)
theorem clearCall (h : OrderHead) (number : Nat) : Statement (.clearCall h number) :=
    of_order h _ rfl rfl (by decide)
theorem loadPlan (h : OrderHead) (plan : Nat) (enabled : SeatSet) (chair1 chair2 : Nat) (shareRight : SeatSet)
    : Statement (.loadPlan h plan enabled chair1 chair2 shareRight) :=
    of_order h _ rfl rfl (by decide)
theorem readPlan (h : OrderHead) (plan : Nat) : Statement (.readPlan h plan) := of_order h _ rfl rfl (by decide)
theorem loadWalkIn (h : OrderHead) (fields : RawWalkIn) : Statement (.loadWalkIn h fields) :=
    of_order h _ rfl rfl (by decide)
theorem readWalkIn (h : OrderHead) : Statement (.readWalkIn h) := of_order h _ rfl rfl (by decide)
theorem setClock (h : OrderHead) (time : Nat) (guard : BitVec 32) : Statement (.setClock h time guard) :=
    of_order h _ rfl rfl (by decide)
theorem readClock (h : OrderHead) : Statement (.readClock h) := of_order h _ rfl rfl (by decide)
theorem book (h : OrderHead) (fields : RawBooking) : Statement (.book h fields) := of_order h _ rfl rfl (by decide)
theorem alter (h : OrderHead) (id : Nat) (fields : RawBooking) : Statement (.alter h id fields) :=
    of_order h _ rfl rfl (by decide)
theorem cancel (h : OrderHead) (id : Nat) : Statement (.cancel h id) := of_order h _ rfl rfl (by decide)
theorem readBooking (h : OrderHead) (position : Nat) : Statement (.readBooking h position) :=
    of_order h _ rfl rfl (by decide)
theorem setHorizon (h : OrderHead) (time : Nat) : Statement (.setHorizon h time) :=
    of_order h _ rfl rfl (by decide)
theorem lowerHorizon (h : OrderHead) (time : Nat) (guard : BitVec 32) : Statement (.lowerHorizon h time guard) :=
    of_order h _ rfl rfl (by decide)
theorem eraseBookings (h : OrderHead) (guard : BitVec 32) : Statement (.eraseBookings h guard) :=
    of_order h _ rfl rfl (by decide)
theorem setGuard (h : OrderHead) (value : BitVec 32) : Statement (.setGuard h value) :=
    of_order h _ rfl rfl (by decide)
theorem startNow (h : OrderHead) : Statement (.startNow h) := of_order h _ rfl rfl (by decide)
theorem endNow (h : OrderHead) : Statement (.endNow h) := of_order h _ rfl rfl (by decide)
theorem extend (h : OrderHead) : Statement (.extend h) := of_order h _ rfl rfl (by decide)
theorem raiseGrade (h : OrderHead) (grade : Nat) : Statement (.raiseGrade h grade) :=
    of_order h _ rfl rfl (by decide)
theorem adjustSession (h : OrderHead) (field value : Nat) : Statement (.adjustSession h field value) :=
    of_order h _ rfl rfl (by decide)
theorem switchPlan (h : OrderHead) (plan : Nat) : Statement (.switchPlan h plan) :=
    of_order h _ rfl rfl (by decide)
theorem readSession (h : OrderHead) : Statement (.readSession h) := of_order h _ rfl rfl (by decide)
theorem grant (h : OrderHead) (seat force : Nat) : Statement (.grant h seat force) :=
    of_order h _ rfl rfl (by decide)
theorem close (h : OrderHead) (seat : Nat) : Statement (.close h seat) := of_order h _ rfl rfl (by decide)
theorem closeAll (h : OrderHead) (chairs : Nat) : Statement (.closeAll h chairs) :=
    of_order h _ rfl rfl (by decide)
theorem queueInsert (h : OrderHead) (seat position : Nat) : Statement (.queueInsert h seat position) :=
    of_order h _ rfl rfl (by decide)
theorem queueRemove (h : OrderHead) (seat : Nat) : Statement (.queueRemove h seat) :=
    of_order h _ rfl rfl (by decide)
theorem queueClear (h : OrderHead) : Statement (.queueClear h) := of_order h _ rfl rfl (by decide)
theorem readQueue (h : OrderHead) (position : Nat) : Statement (.readQueue h position) :=
    of_order h _ rfl rfl (by decide)
theorem readChannels (h : OrderHead) : Statement (.readChannels h) := of_order h _ rfl rfl (by decide)
theorem setGain (h : OrderHead) (bus source code : Nat) : Statement (.setGain h bus source code) :=
    of_order h _ rfl rfl (by decide)
theorem readMix (h : OrderHead) (bus : Nat) : Statement (.readMix h bus) := of_order h _ rfl rfl (by decide)
theorem shareGrant (h : OrderHead) (seat : Nat) : Statement (.shareGrant h seat) :=
    of_order h _ rfl rfl (by decide)
theorem shareEnd (h : OrderHead) : Statement (.shareEnd h) := of_order h _ rfl rfl (by decide)
theorem shareClearWaiting (h : OrderHead) : Statement (.shareClearWaiting h) := of_order h _ rfl rfl (by decide)
theorem panelPage (h : OrderHead) (page : Nat) (targets : TargetSet) : Statement (.panelPage h page targets) :=
    of_order h _ rfl rfl (by decide)
theorem panelText (h : OrderHead) (canvas line : Nat) (text : List Byte) (targets : TargetSet)
    : Statement (.panelText h canvas line text targets) :=
    of_order h _ rfl rfl (by decide)
theorem panelTile (h : OrderHead) (tile canvas x y : Nat) (targets : TargetSet)
    : Statement (.panelTile h tile canvas x y targets) :=
    of_order h _ rfl rfl (by decide)
theorem panelFill (h : OrderHead) (canvas x0 x1 y0 y1 colour : Nat) (targets : TargetSet)
    : Statement (.panelFill h canvas x0 x1 y0 y1 colour targets) :=
    of_order h _ rfl rfl (by decide)
theorem setClip (h : OrderHead) (x0 x1 y0 y1 : Nat) (targets : TargetSet)
    : Statement (.setClip h x0 x1 y0 y1 targets) :=
    of_order h _ rfl rfl (by decide)
theorem tileLoad (h : OrderHead) (tile piece : Nat) (data : List Byte) : Statement (.tileLoad h tile piece data) :=
    of_order h _ rfl rfl (by decide)
theorem tileFlip (h : OrderHead) (tile : Nat) : Statement (.tileFlip h tile) := of_order h _ rfl rfl (by decide)
theorem readPanel (h : OrderHead) (seat : Nat) : Statement (.readPanel h seat) := of_order h _ rfl rfl (by decide)
theorem setLogMode (h : OrderHead) (mode : Nat) : Statement (.setLogMode h mode) :=
    of_order h _ rfl rfl (by decide)
theorem setLogRange (h : OrderHead) (range enabled first last mask : Nat)
    : Statement (.setLogRange h range enabled first last mask) :=
    of_order h _ rfl rfl (by decide)
theorem readLog (h : OrderHead) : Statement (.readLog h) := of_order h _ rfl rfl (by decide)
theorem readStatus (h : OrderHead) : Statement (.readStatus h) := of_order h _ rfl rfl (by decide)
theorem setNoticeMask (h : OrderHead) (mask : BitVec 16) : Statement (.setNoticeMask h mask) :=
    of_order h _ rfl rfl (by decide)
theorem takeNotice (h : OrderHead) : Statement (.takeNotice h) := of_order h _ rfl rfl (by decide)
theorem clearNotices (h : OrderHead) : Statement (.clearNotices h) := of_order h _ rfl rfl (by decide)
theorem loadRingPlan (h : OrderHead) (fields : RawRingPlan) : Statement (.loadRingPlan h fields) :=
    of_order h _ rfl rfl (by decide)
theorem enableBackup (h : OrderHead) : Statement (.enableBackup h) := of_order h _ rfl rfl (by decide)
theorem disableBackup (h : OrderHead) : Statement (.disableBackup h) := of_order h _ rfl rfl (by decide)
theorem clearClockFault (h : OrderHead) : Statement (.clearClockFault h) := of_order h _ rfl rfl (by decide)
theorem restart (h : OrderHead) : Statement (.restart h) := of_order h _ rfl rfl (by decide)

end Sys2Proof.Laws.OrderShape
end

