-- ==== Sys2Proof/Tests/Slice0.lean ====
section
/-! SUPPORT. Tests/Slice0.lean: the checks of well-formedness, a witness for the hypotheses of every statement, and small
tests of one step each, most of them lines of the manual's worked examples. -/

namespace Sys2Proof.Tests.Slice0

open Sys2Proof.Machine

set_option Elab.async false

/-! ### Small states -/

/-- An order of the room station. -/
def hd : OrderHead := { source := 81, tag := 7, part := 0 }

/-- A station record in a state. -/
def rec' (x : StationState) : Station :=
  { Station.vacant with identity := some 1, caps := some { screen := true, content := true }, state := x,
                        haltTime := if x = .halted then some 0 else none }

def put (x : StationState) (n : Nat) (s : State) : State := setStation n (rec' x) s

/-- After reset, with six seats and the three services PRESENT. -/
def up : State := [1, 2, 3, 4, 79, 80, 81, 82, 83].foldl (fun s n => put .present n s) State.reset

/-- An order at the head of the inbound queue. -/
def headed (i : Instr) (s : State) : State := { s with orders := { s.orders with inbound := [i] } }

def flightOf (cell : Option OutCell) (cadence : Cadence) : Flight :=
  { number := 5, cell := cell, up := silentSlots, down := silentBuses, cadence := cadence, clock := .internal }

/-- Frame 5 is out on the ring. -/
def out (cell : Option OutCell) (cadence : Cadence) (s : State) : State :=
  { s with ring := { s.ring with flight := some (flightOf cell cadence) } }

def entry (live : Bool) (id a b : Nat) : Booking :=
  { id := id, startAt := a, endAt := b, organiser := 9, walkIn := false, plan := 0, profile := Profile.walkInDefault,
    live := live, grade := 0, used := 0 }

def session (p : Profile) : Session :=
  { id := 5, walkIn := false, organiser := 9, plan := 0, profile := p, grade := 0, mode := .loose, endAt := 36000,
    warnAt := 35700, phase := .live, resumed := false }

/-- Table time and the booking table, the clock being valid. -/
def table (now : Nat) (l : List Booking) (s : State) : State :=
  { s with hold := { s.hold with tableTime := now, clockValid := true, bookings := l } }

/-- A session LIVE until table time 36,000 under a profile; seats 1 and 2 are the chair seats. -/
def live (p : Profile) : State :=
  let t := table 3600 [entry true 5 0 36000] up
  { t with ctx := some (session p),
           hold := { t.hold with plans := t.hold.plans.set 0 { Plan.default with chairs := [1, 2] } } }

def queueMode : Profile := Profile.walkInDefault
def chairMode : Profile := { queueMode with floorMode := .chair }

/-- A delegate microphone with a speak timer. -/
def speaking (left : Nat) (action : LimitAction) : Channel :=
  { seat := 3, category := .delegate, cause := .queue, openedAt := 3500, mute := true,
    timer := some { remaining := left, lead := 30, action := action, due := decide (left = 0) }, warned := false,
    suppressed := false }

/-- A channel occupied. -/
def holding (k : Nat) (e : Channel) (s : State) : State :=
  { s with chan := { s.chan with table := s.chan.table.setIfInBounds k (some e), order := s.chan.order ++ [k] } }

/-- A wrong guard is possible: a guard is stored. -/
def guardedBy (g : BitVec 32) (s : State) : State := { s with hold := { s.hold with guard := g, guardSet := true } }

/-- `n` minute records wait, and a session is STRICT. -/
def strictWith (n : Nat) (s : State) : State :=
  { s with ctx := s.ctx.map fun c => { c with mode := .strict },
           minutes := { s.minutes with
             queue := (List.range n).map fun i =>
               { seq := i, time := 0, kind := .start, seat := none, channel := none, reason := .time, duration := none,
                 detail := none },
             nextSeq := n } }

/-! ### Well-formedness: a term that each check refuses -/

theorem test_wellFormed_accepts :
    ([.frameReturn 4095 [] silentSlots, .haltIntervalExpiry 255, .readStation hd 255, .setClock hd 4294967295 0,
      .cancel hd 65535, .panelText hd 0 0 (List.replicate 25 0) { form := 0, seats := [] },
      .setClip hd 0 255 0 127 { form := 0, seats := List.replicate 24 255 },
      .tileLoad hd 0 0 (List.replicate 16 0)] : List Instr).all Instr.wellFormed = true := by decide +kernel

theorem test_wellFormed_refuses_heads :
    ([.readClock { source := 127, tag := 0, part := 0 }, .readClock { source := 0, tag := 256, part := 0 },
      .readClock { source := 0, tag := 0, part := 256 }] : List Instr).all (fun i => !i.wellFormed) = true := by decide

theorem test_wellFormed_refuses_events :
    ([.frameReturn 4096 [] silentSlots, .haltIntervalExpiry 256, .speakLimitExpiry 256, .flashExpiry 256] :
      List Instr).all (fun i => !i.wellFormed) = true := by decide

theorem test_wellFormed_refuses_bytes :
    ([.readStation hd 256, .forget hd 256, .haltSeat hd 256, .resumeSeat hd 256, .bypass hd 256, .unbypass hd 256,
      .clearCall hd 256, .loadPlan hd 256 0 0 0 0, .loadPlan hd 0 0 256 0 0, .loadPlan hd 0 0 0 256 0, .readPlan hd 256,
      .readBooking hd 256, .raiseGrade hd 256, .adjustSession hd 256 0, .switchPlan hd 256, .grant hd 256 0,
      .grant hd 0 256, .close hd 256, .closeAll hd 256, .queueInsert hd 256 0, .queueInsert hd 0 256,
      .queueRemove hd 256, .readQueue hd 256, .setGain hd 256 0 0, .setGain hd 0 256 0, .setGain hd 0 0 256,
      .readMix hd 256, .shareGrant hd 256, .tileFlip hd 256, .readPanel hd 256, .setLogMode hd 256,
      .setLogRange hd 256 0 0 0 0, .setLogRange hd 0 256 0 0 0, .setLogRange hd 0 0 256 0 0,
      .setLogRange hd 0 0 0 256 0, .setLogRange hd 0 0 0 0 256] : List Instr).all (fun i => !i.wellFormed) = true := by
  decide

theorem test_wellFormed_refuses_words :
    ([.setClock hd 4294967296 0, .cancel hd 65536, .setHorizon hd 4294967296, .lowerHorizon hd 4294967296 0,
      .adjustSession hd 0 65536] : List Instr).all (fun i => !i.wellFormed) = true := by decide +kernel

theorem test_wellFormed_refuses_profiles :
    let p := queueMode.raw
    ([{ p with floorMode := 256 }, { p with openLimit := 256 }, { p with speakLimit := 65536 },
      { p with warnLead := 256 }, { p with limitAction := 256 }, { p with fullAction := 256 },
      { p with priorityMode := 256 }, { p with duckGain := 256 }, { p with grade := 256 }, { p with minutesMode := 256 },
      { p with sharePolicy := 256 }, { p with shareGrace := 256 }, { p with openMute := 256 }, { p with endLead := 256 },
      { p with extStep := 256 }] : List RawProfile).all (fun x => !x.wellFormed) = true := by decide +kernel

theorem test_wellFormed_refuses_records :
    let p := queueMode.raw
    let bad := { p with grade := 256 }
    let b : RawBooking := { startAt := 0, endAt := 0, organiser := 0, plan := 0, profile := p }
    let w : RawWalkIn := { allowed := 0, plan := 0, profile := p, length := 0, gap := 0 }
    let r : RawRingPlan := { expected := 0, period := 0, limit := 0, idleAllowed := 0, contentFitted := 0,
                             clockSource := 0, keepOpen := 0 }
    (([{ b with startAt := 4294967296 }, { b with endAt := 4294967296 }, { b with organiser := 65536 },
       { b with plan := 256 }, { b with profile := bad }] : List RawBooking).all (fun x =>
        !(Instr.book hd x).wellFormed && !(Instr.alter hd 0 x).wellFormed) && !(Instr.alter hd 65536 b).wellFormed &&
     ([{ w with allowed := 256 }, { w with plan := 256 }, { w with profile := bad }, { w with length := 256 },
       { w with gap := 256 }] : List RawWalkIn).all (fun x => !(Instr.loadWalkIn hd x).wellFormed) &&
     ([{ r with expected := 256 }, { r with period := 65536 }, { r with limit := 256 }, { r with idleAllowed := 256 },
       { r with contentFitted := 256 }, { r with clockSource := 256 }, { r with keepOpen := 256 }] :
        List RawRingPlan).all fun x => !(Instr.loadRingPlan hd x).wellFormed) = true := by decide +kernel

theorem test_wellFormed_refuses_panels :
    let ok : TargetSet := { form := 1, seats := [] }
    let long (n : Nat) : TargetSet := { form := 0, seats := List.replicate n 1 }
    ([.panelPage hd 256 ok, .panelPage hd 0 { form := 256, seats := [] }, .panelPage hd 0 { form := 0, seats := [256] },
      .panelPage hd 0 (long 28), .panelText hd 256 0 [] ok, .panelText hd 0 256 [] ok,
      .panelText hd 0 0 (List.replicate 26 0) ok, .panelText hd 0 0 [] (long 26), .panelTile hd 256 0 0 0 ok,
      .panelTile hd 0 256 0 0 ok, .panelTile hd 0 0 256 0 ok, .panelTile hd 0 0 0 256 ok, .panelTile hd 0 0 0 0 (long 25),
      .panelFill hd 256 0 0 0 0 0 ok, .panelFill hd 0 256 0 0 0 0 ok, .panelFill hd 0 0 256 0 0 0 ok,
      .panelFill hd 0 0 0 256 0 0 ok, .panelFill hd 0 0 0 0 256 0 ok, .panelFill hd 0 0 0 0 0 256 ok,
      .panelFill hd 0 0 0 0 0 0 (long 23), .setClip hd 256 0 0 0 ok, .setClip hd 0 256 0 0 ok, .setClip hd 0 0 256 0 ok,
      .setClip hd 0 0 0 256 ok, .setClip hd 0 0 0 0 (long 25), .tileLoad hd 256 0 (List.replicate 16 0),
      .tileLoad hd 0 256 (List.replicate 16 0), .tileLoad hd 0 0 (List.replicate 15 0)] : List Instr).all
      (fun i => !i.wellFormed) = true := by decide +kernel

/-! ### A witness for the hypotheses of every statement -/

/-- The order stands at the head of the inbound queue of a state, which meets `p`. -/
abbrev Met (i : Instr) (s : State) (p : State → Prop) : Prop := Ready i (headed i s) ∧ p (headed i s)

theorem witness_StepRunsFrontCommand :
    ({ up with pending := [.frameEmit, .probeRound] } : State).pending = .frameEmit :: [.probeRound] ∧
    State.reset.pending = [] := ⟨rfl, rfl⟩

theorem witness_StepKeeps :
    let s := { live queueMode with pending := [.probeRound] }
    (InRange s ∧ FloorTables s ∧ StationTable s ∧ MinutesSequence s) ∧ ∃ t, step s = .next t := by
  refine ⟨?_, _, rfl⟩
  and_intros <;> decide +kernel

theorem witness_OrderBodiesReadBack :
    let i : Instr := .panelText hd 1 7 (List.replicate 24 65) { form := 2, seats := [] }
    i.wellFormed = true ∧ i.head = some hd ∧ i.orderCode = some 0x71 := by decide +kernel

theorem witness_CellsReadBack :
    let body : List Byte := List.replicate 32 0
    inKindOf 0x21 = some .join ∧ inKindOf 0x25 = some .pace ∧ body.length ≤ 32 ∧
    bytes2 (crc16 ([byte 255, byte 0, byte 0x25, byte 255, byte body.length] ++ body)).toNat ≠ [0, 0] := by
  decide +kernel

theorem witness_ArrivingOrderIsCarriedOut :
    let h := { hd with part := 1 }
    let i : Instr := .readBooking h 1
    mainRunning up = true ∧ up.orders.inbound = [] ∧ i.head = some h ∧ i.orderCode = some 0x35 ∧
    i.wellFormed = true ∧ h.source = 81 ∧ present up 81 = true ∧ h.part < partsOf 0x35 := by
  and_intros <;> decide +kernel

theorem witness_ArrivalRefusals :
    let i : Instr := .readClock { hd with part := 1 }
    let busy := { up with orders := { up.orders with inbound := List.replicate 4 (.readLog hd) } }
    mainRunning up = true ∧ up.orders.inbound.head? ≠ some i ∧ i.head = some { hd with part := 1 } ∧
    i.orderCode = some 0x31 ∧ present State.reset 81 = false ∧ present up 81 = true ∧ i.wellFormed = true ∧
    partsOf 0x31 ≤ 1 ∧ (Instr.grant hd 256 0).wellFormed = false ∧ (Instr.grant hd 256 0).orderCode = some 0x50 ∧
    mainRunning busy = true ∧ busy.orders.inbound.head? ≠ some (.readClock hd) ∧
    (Instr.readClock hd).wellFormed = true ∧ hd.part < partsOf 0x31 ∧ 4 ≤ busy.orders.inbound.length ∧
    present busy 81 = true := by
  and_intros <;> decide +kernel

def startRecord : MinuteRecord :=
  { seq := 0, time := 0, kind := .start, seat := none, channel := none, reason := .time, duration := none,
    detail := some (.start 5 9 0 0 false) }

theorem witness_OrderCellJoinsInboundQueue :
    let t := out none .idle up
    let s := { t with orders := { t.orders with inbound := List.replicate 3 (.readLog hd) } }
    let i : Instr := .readClock hd
    mainRunning s = true ∧ s.ring.flight = some (flightOf none .idle) ∧ (flightOf none .idle).cell = none ∧
    i.wellFormed = true ∧ i.head = some hd ∧ i.orderCode = some 0x31 ∧ hd.source = 81 ∧ hd.part < partsOf 0x31 ∧
    present s 81 = true ∧ s.orders.inbound.length < 4 := by
  and_intros <;> decide +kernel

/-- The body of a JOIN: an identity, a kind, and both capabilities. -/
def joinBody (id kind : Nat) : List Byte := [0, 0, 0, 0, 0, byte id, byte kind, 3]

theorem witness_OrderCellJoinsInboundQueue_join :
    let known (x : StationState) := put x 1 State.reset
    let full : State := { State.reset with stn := { State.reset.stn with
      records := Vector.replicate 83 { Station.vacant with identity := some 9 } } }
    (joinBody 1 0).length = 8 ∧ u8 (joinBody 1 0) 6 = 0 ∧ identityAt (joinBody 1 0) 0 = 1 ∧
    (station State.reset 126).state = .vacant ∧ (station (known .halted) 1).state = .halted ∧
    (station (known .present) 1).identity = some 1 ∧ (station (known .present) 1).state = .present ∧
    (station (known .silent) 1).state = .silent ∧ (station (known .joining) 1).state = .joining ∧
    ((station State.reset 1).identity = none ∧ (station State.reset 1).state = .vacant) ∧
    u8 (joinBody 2 3) 6 = 3 ∧ (station up 83).state = .present ∧ (station up 83).identity ≠ some 2 ∧
    (station State.reset 83).state = .vacant ∧
    (seatNumbers.all fun m => decide ((station full m).identity = some 9)) = true := by
  and_intros <;> decide +kernel

theorem witness_OrderCellJoinsInboundQueue_minutes :
    let m : OutCell := .minute startRecord
    let n := (strictWith 2 (live queueMode)).minutes
    let s (credits : Nat) (flight : Option Bool) :=
      out (some m) .idle { up with minutes := { n with credits := credits, flight := flight } }
    (mainRunning (s 1 (some false)) = true ∧ (s 1 (some false)).ring.flight = some (flightOf (some m) .idle) ∧
      (s 1 (some false)).minutes.queue.tail ≠ [] ∧ (s 1 (some false)).queue = [] ∧
      (s 1 (some false)).share.waiting = [] ∧ 0 < (s 1 (some false)).minutes.credits ∧
      present (s 1 (some false)) 82 = true) ∧
    ((s 0 (some true)).minutes.credits = 0 ∧ (s 0 (some true)).minutes.flight = some true) ∧
    (present up 82 = true ∧ up.minutes.queue = [] ∧ up.minutes.flight = none ∧ present State.reset 82 = false ∧
      min 32 ((s 31 none).minutes.credits + (2 : Byte).toNat) = 32 ∧ (s 31 none).minutes.flight = none) := by
  and_intros <;> decide +kernel

theorem witness_FrameEmitLeavesOpenLane :
    mainRunning up = true ∧ up.ring.flight = none ∧ up.ring.nextFrame % 4 = 0 ∧
    ({ up with ring := { up.ring with nextFrame := 4092 } } : State).ring.nextFrame % 4 = 0 := by
  and_intros <;> decide +kernel

/-- One state for each class of the scheduler. -/
def placing (f : Sched → Sched) : State :=
  { up with ring := { up.ring with nextFrame := 4095 }, sched := f Sched.cleared }

theorem witness_FrameEmitPlacesByClass :
    let s := placing id
    let a : Answer := { dest := 81, tag := 7, code := 0x31, status := .done, part := 0, parts := 1, result := [] }
    mainRunning s = true ∧ s.ring.flight = none ∧ s.ring.nextFrame % 4 ≠ 0 ∧
    (placing fun x => { x with class1 := [.mic 3] }).sched.class1 = [.mic 3] ∧
    (placing fun x => { x with class2 := [.answer a] }).sched.class1 = [] ∧
    (placing fun x => { x with class2 := [.answer a] }).sched.class2 = [.answer a] ∧
    (placing fun x => { x with class2 := [.alert] }).sched.class2 = [.alert] ∧
    (placing fun x => { x with class3 := [.assign] }).sched.class2 = [] ∧
    (placing fun x => { x with class3 := [.assign] }).sched.class3 = [.assign] ∧
    (offerPresentation (placing fun x => { x with class1 := [.mic 3] })).sched.class1 = [.mic 3] ∧
    (offerPresentation (placing fun x => { x with class2 := [.alert] })).sched.class2 = [.alert] ∧
    (offerPresentation (placing fun x => { x with class3 := [.assign] })).sched.class3 = [.assign] := by
  and_intros <;> decide +kernel

theorem witness_FrameEmitPlacesByClass_class4 :
    let page : OutCell := .page 3 .agenda
    let both := placing fun x => { x with presentation := some page, minute := some startRecord }
    let turn := placing fun x => { x with presentation := some page, minute := some startRecord, last4 := .presentation }
    let one := placing fun x => { x with minute := some startRecord }
    let lamp := markLamp 80 (placing id)
    (both.sched.presentation = some page ∧ (offerPresentation both).sched.last4 = .minutes) ∧
    ((offerPresentation turn).sched.presentation = some page ∧ (offerPresentation turn).sched.last4 = .presentation ∧
      (offerPresentation turn).sched.minute = some startRecord) ∧
    ((offerPresentation one).sched.presentation = none ∧ (offerPresentation one).sched.minute = some startRecord) ∧
    (lamp.sched.presentation = none ∧ lamp.panel.job = none ∧ present lamp 80 = true ∧
      (panelOf lamp 80).lampDirty = true ∧ (panelOf lamp 80).lampSent ≠ some (lampNow lamp 80) ∧
      ((List.range' 1 79).all fun m => !present lamp m || !(panelOf lamp m).lampDirty) = true) ∧
    (offerPresentation (placing id)).sched.presentation = none := by
  and_intros <;> decide +kernel

theorem witness_FrameReturnIsCountedOrDiscarded :
    let i := out none .idle up
    let f := out none .full up
    mainRunning up = true ∧ up.ring.flight = none ∧ (flightOf none .idle).number ≠ 6 ∧ mainRunning i = true ∧
    i.ring.flight = some (flightOf none .idle) ∧ i.ring.broken = false ∧ (flightOf none .idle).cadence = .idle ∧
    f.ring.flight = some (flightOf none .full) ∧ f.ring.broken = false ∧ (flightOf none .full).cadence = .full := by
  and_intros <;> decide +kernel

theorem witness_BadCellIsCountedAndMisses :
    let m : OutCell := .mic 3 none
    let s := out none .idle up
    let t := out (some m) .idle up
    mainRunning s = true ∧ s.ring.flight = some (flightOf none .idle) ∧ s.ring.broken = false ∧
    ([1] : List Byte) ≠ [] ∧ parseCell [1] = none ∧ mainRunning t = true ∧
    t.ring.flight = some (flightOf (some m) .idle) ∧ m.bytes ≠ [1] ∧ present t 3 = true ∧ .mic 3 ∉ t.sched.class1 := by
  and_intros <;> decide +kernel

theorem witness_EchoMakesStationPresent :
    let s (n : Nat) (x : StationState) := out (some (.station (.probe n))) .idle (put x n up)
    mainRunning (s 1 .joining) = true ∧
    (s 1 .joining).ring.flight = some (flightOf (some (.station (.probe 1))) .idle) ∧
    (station (s 1 .joining) 1).state = .joining ∧ (station (s 83 .silent) 83).state = .silent ∧
    (station (s 83 .present) 83).state = .present := by
  and_intros <;> decide +kernel

theorem witness_LeavingPresentDeparts :
    let s := out (some (.station (.probe 80))) .idle (live queueMode)
    let last := setStation 80 { rec' .present with missed := 2 } s
    let halt (n : Nat) (x : StationState) := headed (.haltSeat hd n) (put x n (live queueMode))
    (FloorTables s ∧ mainRunning s = true ∧ present s 80 = true ∧
      s.ring.flight = some (flightOf (some (.station (.probe 80))) .idle) ∧
      min 7 ((station s 80).missed + 1) < s.stn.plan.limit) ∧
    (FloorTables last ∧ present last 80 = true ∧ last.stn.plan.limit ≤ min 7 ((station last 80).missed + 1)) ∧
    Ready (.haltSeat hd 0) (headed (.haltSeat hd 0) up) ∧ Ready (.haltSeat hd 81) (headed (.haltSeat hd 81) up) ∧
    (Ready (.haltSeat hd 1) (halt 1 .halted) ∧ (station (halt 1 .halted) 1).state = .halted) ∧
    (Ready (.haltSeat hd 80) (halt 80 .silent) ∧ (station (halt 80 .silent) 80).state = .silent) ∧
    (Ready (.haltSeat hd 80) (halt 80 .present) ∧ FloorTables (halt 80 .present) ∧
      present (halt 80 .present) 80 = true) ∧
    Met (.bypass hd 0) up (fun _ => True) ∧ Met (.bypass hd 84) up (fun _ => True) ∧
    Met (.bypass hd 5) up (fun s => present s 5 = false) ∧
    Met (.bypass hd 83) up (fun s => present s 83 = true ∧ FloorTables s) ∧
    Met (.bypass hd 1) (live queueMode) (fun s => present s 1 = true ∧ FloorTables s) := by
  and_intros <;> decide +kernel

theorem witness_FailuresBreakRingAndReturnRestores :
    let s (n : Nat) (b : Bool) := { out none .idle up with
      ring := { nextFrame := 6, fresh := false, flight := some (flightOf none .idle), failures := n, broken := b, badCells := 0 } }
    mainRunning (s 30 false) = true ∧ (s 30 false).ring.flight = some (flightOf none .idle) ∧
    (s 30 false).ring.failures < 31 ∧ (s 31 false).ring.failures = 31 ∧ (s 31 false).ring.broken = false ∧
    (s 32 true).ring.broken = true := by
  and_intros <;> decide +kernel

theorem witness_ProbeRoundOffersAssignAndProbes :
    mainRunning up = true ∧ (station up 83).state = .present ∧ up.sched.class3.contains (.probe 83) = false := by
  and_intros <;> decide +kernel

theorem witness_HaltIntervalReleasesHeldResume :
    let s := put .halted 1 up
    mainRunning s = true ∧ (station s 1).state = .halted ∧ (station s 1).haltOver = false ∧
    (station s 80).state ≠ .halted ∧
    (station (setStation 80 { rec' .halted with haltOver := true } up) 80).haltOver = true := by
  and_intros <;> decide +kernel

/-- Seat 80 holds the content lane. -/
def sharing (grace : Option Nat) (s : State) : State :=
  { s with share := { s.share with holder := some { seat := 80, basis := .speaker, far := true }, grace := grace } }

theorem witness_GraceExpiryEndsShare :
    let s := sharing (some 10) (live queueMode)
    mainRunning s = true ∧ s.share.holder = some { seat := 80, basis := .speaker, far := true } ∧
    s.share.grace = some 10 ∧ s.share.waiting = [] ∧
    s.minutes.rangeA = { enabled := true, first := 1, last := 80, mask := 7 } ∧ s.minutes.queue.length < 32 ∧
    s.minutes.drop = 0 ∧ gradeNow s < 3 := by
  and_intros <;> decide +kernel

theorem witness_TickCountsTableTime :
    ({ up with supply := .hold } : State).supply = .hold ∧ ({ up with supply := .off } : State).supply = .off ∧
    up.supply = .run ∧ ({ up with nrstLow := true } : State).nrstLow = true ∧ up.nrstLow = false ∧
    up.hold.bookings = [] ∧ up.ctx = none ∧ channels up = [] ∧
    (table 4294967295 [] up).hold.tableTime = 4294967295 ∧ (table 4294967295 [] up).hold.bookings = [] := by
  and_intros <;> decide +kernel

theorem witness_TickRunsSpeakTimers :
    let s := holding 0 (speaking 31 .close) (table 35698 [entry true 5 0 36000] (live queueMode))
    mainRunning s = true ∧ s.ctx = some (session queueMode) ∧ s.hold.bookings = [entry true 5 0 36000] ∧
    (entry true 5 0 36000).live = true ∧ s.hold.tableTime + 1 < (entry true 5 0 36000).endAt ∧
    s.hold.tableTime < 4294967295 ∧ (session queueMode).phase = .live ∧
    s.hold.tableTime + 1 < (session queueMode).warnAt := by
  and_intros <;> decide +kernel

theorem witness_TickStartsAndEndsSessions :
    let a := table 3599 [entry false 5 3600 36000] up
    let b := table 35999 [entry true 5 0 36000] (live queueMode)
    (mainRunning a = true ∧ a.hold.bookings = [entry false 5 3600 36000] ∧ a.hold.tableTime < 4294967295 ∧
      a.ctx = none ∧ (entry false 5 3600 36000).startAt ≤ a.hold.tableTime + 1) ∧
    (mainRunning b = true ∧ b.hold.bookings = [entry true 5 0 36000] ∧ b.ctx ≠ none ∧
      (entry true 5 0 36000).endAt ≤ b.hold.tableTime + 1 ∧ FloorTables b) := by
  and_intros <;> decide +kernel

theorem witness_SpeakLimitFlagsOrCloses :
    let s (a : LimitAction) := holding 7 (speaking 0 a) (live queueMode)
    mainRunning (s .flag) = true ∧ channelOf (s .flag) 3 = some 7 ∧
    channelAt (s .flag) 7 = some (speaking 0 .flag) ∧ (noticeAt (s .flag) 10).pending = false ∧
    (speaking 0 .flag).timer = some { remaining := 0, lead := 30, action := .flag, due := true } ∧
    channelOf (s .close) 3 = some 7 ∧ channelAt (s .close) 7 = some (speaking 0 .close) ∧
    (speaking 0 .close).timer = some { remaining := 0, lead := 30, action := .close, due := true } ∧
    (s .close).queue = [] ∧ FloorTables (s .close) := by
  and_intros <;> decide +kernel

theorem witness_PanelAndCadenceTimers :
    mainRunning up = true ∧ (panelOf (flash 80 up) 80).flash = true ∧ (panelOf (flash 1 up) 1).flash = true ∧
    ({ up with panel := { up.panel with refresh := true } } : State).panel.refresh = true ∧
    (startCadenceTimer up).sup.timer = true ∧
    (let s := flash 80 up
     present s 80 = true ∧ s.sched.presentation = none ∧ s.panel.job = none ∧ (panelOf s 80).lampSent = none ∧
       ((List.range' 1 79).all fun m => !(panelOf s m).lampDirty) = true) := by
  and_intros <;> decide +kernel

/-- The sample clock in a given way. -/
def clocked (selection inUse : ClockSource) (fault here : Bool) : State :=
  { up with mix := { up.mix with selection := selection, inUse := inUse, fault := fault, present := here } }

theorem witness_SampleClockFallsBackAndRecovers :
    mainRunning up = true ∧ up.mix.inUse = .internal ∧
    mainRunning (clocked .external .external false true) = true ∧
    (clocked .external .external false true).mix.inUse = .external ∧
    Met (.clearClockFault hd) up (fun s => s.mix.fault = false) ∧
    Met (.clearClockFault hd) (clocked .internal .internal true false)
      (fun s => s.mix.fault = true ∧ s.mix.selection = .internal) ∧
    Met (.clearClockFault hd) (clocked .external .internal true false)
      (fun s => s.mix.fault = true ∧ s.mix.selection = .external ∧ s.mix.present = false) ∧
    Met (.clearClockFault hd) (clocked .external .internal true true)
      (fun s => s.mix.fault = true ∧ s.mix.selection = .external ∧ s.mix.present = true) := by
  and_intros <;> decide +kernel

/-- The hold domain and the backup in a given way. -/
def backed (supply : Supply) (enable : Bool) (b : BackupCond) (s : State) : State :=
  { s with supply := supply, hold := { s.hold with backupEnable := enable }, sup := { s.sup with backup := b } }

theorem witness_MainsLossHoldsOrLosesAll :
    let s := backed .run true .ok up
    let a := backed .run false .ok up
    let b := backed .run true .low up
    s.supply = .run ∧ s.hold.backupEnable = true ∧ s.sup.backup = .ok ∧ a.supply = .run ∧
    a.hold.backupEnable = false ∧ b.supply = .run ∧ b.sup.backup = .low := by
  and_intros <;> decide +kernel

theorem witness_MainsReturnStartsThePart :
    let s (now : Nat) (l : List Booking) := backed .hold true .ok (table now l State.reset)
    (backed .off true .ok up).nrstLow = false ∧ (backed .off true .ok up).supply = .off ∧
    (s 10 []).nrstLow = false ∧ (s 10 []).supply = .hold ∧ (s 10 []).hold.bookings = [] ∧
    (s 60 [entry true 5 60 3600]).hold.bookings = [entry true 5 60 3600] ∧ (entry true 5 60 3600).live = true ∧
    (entry true 5 60 3600).startAt ≤ (s 60 [entry true 5 60 3600]).hold.tableTime ∧
    (s 3599 [entry true 5 60 3600]).hold.tableTime < (entry true 5 60 3600).endAt ∧
    (entry true 5 60 3600).endAt ≤ (s 3600 [entry true 5 60 3600]).hold.tableTime := by
  and_intros <;> decide +kernel

theorem witness_BackupEventsAndOrders :
    up.supply = .run ∧ up.nrstLow = false ∧ ({ up with nrstLow := true } : State).supply = .run ∧
    (backed .hold true .ok up).supply = .hold ∧ Met (.enableBackup hd) up (fun s => s.sup.backup = .ok) ∧
    Met (.disableBackup hd) up (fun _ => True) := by
  and_intros <;> decide +kernel

theorem witness_ResetLineHoldsThenResets :
    let s := { State.reset with nrstLow := true }
    up.supply = .run ∧ up.nrstLow = false ∧ s.supply = .run ∧ s.nrstLow = true ∧ s.awaited = none ∧
    s.hold.bookings = [] := by
  and_intros <;> decide +kernel

theorem witness_RestartWaitsForItsAnswer :
    let s := { up with sup := { up.sup with restart := .ready } }
    Met (.restart hd) up (fun s => s.sup.restart = .absent) ∧ mainRunning up = true ∧ up.sup.restart ≠ .ready ∧
    mainRunning s = true ∧ s.sup.restart = .ready ∧ s.hold.bookings = [] ∧
    (let a : Answer := { dest := 81, tag := 7, code := 0x98, status := .done, part := 0, parts := 1, result := [] }
     let w := out (some (.answer a)) .idle { up with sup := { up.sup with restart := .answering } }
     mainRunning w = true ∧ w.ring.flight = some (flightOf (some (.answer a)) .idle) ∧ a.code = 0x98 ∧
       a.status = .done ∧ w.sup.restart = .answering) := by
  and_intros <;> decide +kernel

theorem witness_WholeReadsAnswerAndChangeNothing :
    Met (.readClock hd) up (fun _ => True) ∧ Met (.readWalkIn hd) up (fun _ => True) ∧
    Met (.readChannels { hd with part := 3 }) (live queueMode) (fun _ => True) ∧ Met (.readLog hd) up (fun _ => True) ∧
    Met (.readStatus hd) up (fun _ => True) := by
  and_intros <;> decide +kernel

theorem witness_NamedReadsAnswerAndChangeNothing :
    Met (.readStation hd 1) up (fun _ => True) ∧ Met (.readStation hd 83) up (fun _ => True) ∧
    Met (.readStation hd 0) up (fun _ => True) ∧ Met (.readPlan hd 7) up (fun _ => True) ∧
    Met (.readPanel hd 80) up (fun _ => True) ∧
    Met (.readBooking hd 1) (live queueMode) (fun s => s.hold.bookings[0]? = some (entry true 5 0 36000)) ∧
    Met (.readBooking hd 2) (live queueMode) (fun s => s.hold.bookings.length < 2) ∧
    Met (.readBooking hd 0) (live queueMode) (fun _ => True) ∧
    Met (.readSession hd) (live queueMode) (fun s => liveCtx s = some (session queueMode)) ∧
    Met (.readSession hd) up (fun s => liveCtx s = none) ∧ Met (.readQueue hd 1) up (fun s => liveCtx s = none) ∧
    Met (.readQueue hd 33) (live queueMode) (fun s => liveCtx s ≠ none) ∧
    Met (.readQueue hd 32) (live queueMode) (fun s => liveCtx s ≠ none) := by
  and_intros <;> decide +kernel

theorem witness_MixTableOrders :
    Met (.setGain hd 3 9 40) up (fun _ => True) ∧ Met (.setGain hd 4 9 40) up (fun _ => True) ∧
    Met (.readMix hd 3) up (fun _ => True) ∧ Met (.readMix hd 4) up (fun _ => True) := by
  and_intros <;> decide +kernel

theorem witness_GainProductIsNearest :
    (1 ≤ 1 ∧ 1 ≤ 40) ∧ (1 ≤ 40 ∧ 40 ≤ 40) ∧ (-8388608 : Int).natAbs ≤ 8388608 := by decide

theorem witness_NoticeOrders :
    let quiet := { up with orders := { up.orders with starts := [] } }
    let two := setNotice 2 { pending := true, event := 1, value := 0, count := 1 } quiet
    Met (.takeNotice hd) quiet (fun s => highestCause s = 0) ∧ Met (.takeNotice hd) two (fun s => highestCause s = 2) ∧
    Met (.takeNotice hd) up (fun s => highestCause s = 1 ∧ s.orders.starts = [.coldStart]) ∧ hd.part = 0 ∧
    Met (.clearNotices hd) up (fun _ => True) ∧ Met (.setNoticeMask hd 0xFFFF) up (fun s => highestCause s ≠ 0) ∧
    Met (.setNoticeMask hd 0xFFFF) State.reset (fun s => present s 81 = false) := by
  and_intros <;> decide +kernel

/-- The fields of a BOOK, with the walk-in profile's values. -/
def fields (a b : Nat) : RawBooking := { startAt := a, endAt := b, organiser := 9, plan := 0, profile := queueMode.raw }

theorem witness_SetClockTakesTime :
    let late := { table 100 [entry false 5 60 3600] up with hold :=
      { (table 100 [entry false 5 60 3600] up).hold with clockValid := false } }
    Met (.setClock hd 4294967295 0) up (fun s => s.hold.clockValid = false ∧ s.hold.bookings = []) ∧
    Met (.setClock hd 0 7) (guardedBy 7 (table 100 [] up))
      (fun s => s.guardLock = false ∧ (7 : BitVec 32) = s.hold.guard ∧ liveEntry s = none ∧ s.hold.bookings = []) ∧
    Met (.setClock hd 3600 0) late (fun s => s.hold.clockValid = false ∧ s.hold.bookings = [entry false 5 60 3600] ∧
      (entry false 5 60 3600).live = false ∧ (entry false 5 60 3600).endAt ≤ 3600) ∧
    Met (.setClock hd 0 0) (live queueMode) (fun s => s.hold.clockValid = true ∧ s.guardLock = false ∧
      s.hold.guardSet = false ∧ liveEntry s ≠ none) := by
  and_intros <;> decide +kernel

/-- 48 entries. -/
def fullTable : List Booking := (List.range 48).map fun i => entry false (i + 1) (60000 + 600 * i) (60300 + 600 * i)

theorem witness_BookChecksAndCreates :
    let t := table 3600 [entry false 5 7200 10800] up
    let frozen := { t with hold := { t.hold with horizon := 3720 } }
    Met (.book hd (fields 3660 3960)) up (fun s => s.hold.clockValid = false) ∧
    Met (.book hd (fields 3660 3900)) t (fun s => s.hold.clockValid = true ∧
      bookingFields s.hold.tableTime (fields 3660 3900) = none) ∧
    Met (.book hd (fields 3660 3960)) frozen (fun s => s.hold.clockValid = true ∧
      bookingFields s.hold.tableTime (fields 3660 3960) = some queueMode ∧ 3660 < s.hold.horizon) ∧
    Met (.book hd (fields 3660 3960)) (table 3600 fullTable up) (fun s =>
      bookingFields s.hold.tableTime (fields 3660 3960) = some queueMode ∧ s.hold.horizon ≤ 3660 ∧
      48 ≤ s.hold.bookings.length) ∧
    Met (.book hd (fields 3660 6960)) t (fun s => bookingFields s.hold.tableTime (fields 3660 6960) = some queueMode ∧
      s.hold.horizon ≤ 3660 ∧ s.hold.bookings.length < 48 ∧
      conflictEntry s 3660 6960 none = some (entry false 5 7200 10800)) ∧
    Met (.book hd (fields 3660 6900)) t (fun s => bookingFields s.hold.tableTime (fields 3660 6900) = some queueMode ∧
      s.hold.bookings.length < 48 ∧ conflictEntry s 3660 6900 none = none ∧ 1 ≤ s.hold.nextId ∧
      s.hold.nextId ≤ 65535 ∧ s.hold.bookings.Pairwise (fun a b => a.startAt ≤ b.startAt)) := by
  and_intros <;> decide +kernel

theorem witness_AlterAndCancel :
    let l := [entry false 5 7200 10800, entry false 6 14400 18000]
    let t := table 3600 l up
    let frozen := { t with hold := { t.hold with horizon := 7260 } }
    Met (.alter hd 5 (fields 3660 3960)) up (fun s => s.hold.clockValid = false) ∧
    Met (.alter hd 7 (fields 3660 3960)) t (fun s => s.hold.clockValid = true ∧ bookingOf s 7 = none) ∧
    Met (.alter hd 5 (fields 3660 3960)) (live queueMode) (fun s => bookingOf s 5 = some (entry true 5 0 36000)) ∧
    Met (.alter hd 5 (fields 3660 3959)) t (fun s => bookingOf s 5 = some (entry false 5 7200 10800) ∧
      bookingFields s.hold.tableTime (fields 3660 3959) = none) ∧
    Met (.alter hd 5 (fields 7260 7560)) frozen (fun s => bookingOf s 5 = some (entry false 5 7200 10800) ∧
      bookingFields s.hold.tableTime (fields 7260 7560) = some queueMode ∧
      (entry false 5 7200 10800).startAt < s.hold.horizon) ∧
    Met (.alter hd 5 (fields 7200 14160)) t (fun s => bookingFields s.hold.tableTime (fields 7200 14160) = some queueMode ∧
      s.hold.horizon ≤ 7200 ∧ conflictEntry s 7200 14160 (some 5) = some (entry false 6 14400 18000)) ∧
    Met (.alter hd 5 (fields 7200 14100)) t (fun s => bookingFields s.hold.tableTime (fields 7200 14100) = some queueMode ∧
      conflictEntry s 7200 14100 (some 5) = none) ∧
    Met (.cancel hd 7) t (fun s => bookingOf s 7 = none) ∧
    Met (.cancel hd 5) (live queueMode) (fun s => bookingOf s 5 = some (entry true 5 0 36000)) ∧
    Met (.cancel hd 5) frozen (fun s => bookingOf s 5 = some (entry false 5 7200 10800) ∧ 7200 < s.hold.horizon) ∧
    Met (.cancel hd 6) t (fun s => bookingOf s 6 = some (entry false 6 14400 18000) ∧ s.hold.horizon ≤ 14400) := by
  and_intros <;> decide +kernel

theorem witness_HorizonEraseAndGuard :
    Met (.setHorizon hd 4294967295) up (fun _ => True) ∧
    Met (.lowerHorizon hd 0 7) (guardedBy 7 up) (fun s => s.guardLock = false ∧ (7 : BitVec 32) = s.hold.guard) ∧
    Met (.lowerHorizon hd 0 0) up (fun s => s.guardLock = false ∧ s.hold.guardSet = false) ∧
    Met (.eraseBookings hd 0) up (fun s => s.guardLock = false ∧ s.hold.guardSet = false) ∧
    Met (.setGuard hd 0) up (fun s => s.hold.guardSet = false) ∧
    Met (.setGuard hd 0) (guardedBy 7 up) (fun s => s.hold.guardSet = true) := by
  and_intros <;> decide +kernel

theorem witness_WrongGuardLocksGuardedOrders :
    let wrong := guardedBy 7 (table 100 [] up)
    let locked := { wrong with guardLock := true }
    Met (.setClock hd 0 8) wrong (fun s => s.hold.clockValid = true ∧ s.guardLock = false ∧ s.hold.guardSet = true ∧
      (8 : BitVec 32) ≠ s.hold.guard) ∧
    Met (.lowerHorizon hd 0 8) wrong (fun s => s.hold.guardSet = true) ∧
    Met (.eraseBookings hd 8) wrong (fun s => s.hold.guardSet = true) ∧
    Met (.eraseBookings hd 7) locked (fun s => s.guardLock = true) := by
  and_intros <;> decide +kernel

/-- The fields of a ring plan: EXTERNAL or INTERNAL, left open. -/
def planFields (clock : Nat) : RawRingPlan :=
  { expected := 1, period := 50, limit := 7, idleAllowed := 0, contentFitted := 0, clockSource := clock, keepOpen := 1 }

def planOf (clock : ClockSource) : RingPlan :=
  { expected := 1, period := 50, limit := 7, idleAllowed := false, contentFitted := false, clockSource := clock,
    keepOpen := true }

theorem witness_LoadsReplaceWhole :
    let w : RawWalkIn := { allowed := 1, plan := 7, profile := queueMode.raw, length := 240, gap := 30 }
    Met (.loadPlan hd 8 0 0 0 0) up (fun _ => True) ∧
    Met (.loadPlan hd 7 0 1 0 0) up (fun _ => chairsOf 0 1 0 = none) ∧
    Met (.loadPlan hd 7 (BitVec.allOnes 80) 80 1 0) up (fun _ => chairsOf (BitVec.allOnes 80) 80 1 = some [80, 1]) ∧
    Met (.loadPlan hd 0 0 0 0 0) (live queueMode) (fun s => liveCtx s = some (session queueMode)) ∧
    Met (.loadWalkIn hd { w with gap := 31 }) up (fun _ => walkInOf { w with gap := 31 } = none) ∧
    Met (.loadWalkIn hd w) up (fun _ => walkInOf w =
      some { allowed := true, plan := 7, profile := queueMode, length := 240, gap := 30 }) ∧
    Met (.loadRingPlan hd { planFields 0 with expected := 81 }) up
      (fun _ => ringPlanOf { planFields 0 with expected := 81 } = none) ∧
    Met (.loadRingPlan hd (planFields 0)) { up with stn := { up.stn with locked := true } }
      (fun s => ringPlanOf (planFields 0) = some (planOf .internal) ∧ s.stn.locked = true) ∧
    Met (.loadRingPlan hd (planFields 0)) up (fun s => s.stn.locked = false ∧
      (planOf .internal).clockSource = s.mix.selection) ∧
    Met (.loadRingPlan hd (planFields 1)) (clocked .internal .internal false true) (fun s =>
      ringPlanOf (planFields 1) = some (planOf .external) ∧ s.mix.selection = .internal ∧ s.mix.fault = false ∧
      s.mix.present = true) ∧
    Met (.loadRingPlan hd (planFields 1)) up (fun s => s.mix.selection = .internal ∧ s.mix.fault = false ∧
      s.mix.present = false) := by
  and_intros <;> decide +kernel

theorem witness_StartNowStartsWalkIn :
    let near := table 3601 [entry false 5 4500 10800] up
    let far := table 3600 [entry false 5 4500 10800] up
    Met (.startNow hd) (live queueMode) (fun s => s.ctx ≠ none) ∧
    Met (.startNow hd) up (fun s => s.hold.clockValid = false) ∧
    Met (.startNow hd) (table 3600 fullTable up) (fun s => s.ctx = none ∧ s.hold.clockValid = true ∧
      48 ≤ s.hold.bookings.length) ∧
    Met (.startNow hd) near (fun s => s.hold.bookings.length < 48 ∧ windowWide s = false ∧
      firstPending s = some (entry false 5 4500 10800)) ∧
    Met (.startNow hd) far (fun s => s.ctx = none ∧ s.hold.clockValid = true ∧ windowWide s = true ∧
      conflictEntry s (s.hold.tableTime / 60 * 60) (walkInEnd s) none = none ∧ walkInEnd s ≤ 4294967295) := by
  and_intros <;> decide +kernel

theorem witness_EndNowEndsSession :
    Met (.endNow hd) up (fun s => liveCtx s = none) ∧
    Met (.endNow hd) (live queueMode) (fun s => liveCtx s = some (session queueMode) ∧
      s.hold.bookings = [entry true 5 0 36000] ∧ FloorTables s) := by
  and_intros <;> decide +kernel

theorem witness_ExtendMovesEnd :
    let then_ (a : Nat) := table 3600 [entry true 5 0 36000, entry false 6 a 60000] (live queueMode)
    let spent := table 3600 [{ entry true 5 0 36000 with used := 3 }] (live queueMode)
    Met (.extend hd) up (fun s => liveCtx s = none) ∧
    Met (.extend hd) spent (fun s => liveCtx s = some (session queueMode) ∧
      liveEntry s = some { entry true 5 0 36000 with used := 3 }) ∧
    Met (.extend hd) (then_ 37199) (fun s => liveEntry s = some (entry true 5 0 36000) ∧
      nextEntry s = some (entry false 6 37199 60000) ∧ 37199 < 36000 + 15 * 60 + s.hold.walkIn.gap * 60) ∧
    Met (.extend hd) (strictWith 31 (then_ 37200)) (fun s => (liveCtx s).isSome = true ∧
      nextEntry s = some (entry false 6 37200 60000) ∧ 36000 + 15 * 60 + s.hold.walkIn.gap * 60 ≤ 37200 ∧
      actionRoom s = false) ∧
    Met (.extend hd) (strictWith 30 (then_ 37200)) (fun s => (liveCtx s).isSome = true ∧ actionRoom s = true) ∧
    Met (.extend hd) (live queueMode) (fun s => nextEntry s = none ∧ actionRoom s = true ∧
      5 * 60 ≤ 36000 + 15 * 60) := by
  and_intros <;> decide +kernel

theorem witness_RaiseGradeOnlyRaises :
    let graded := { live queueMode with ctx := some { session queueMode with grade := 3 } }
    Met (.raiseGrade hd 1) up (fun s => liveCtx s = none) ∧
    Met (.raiseGrade hd 4) (live queueMode) (fun s => liveCtx s = some (session queueMode)) ∧
    Met (.raiseGrade hd 3) graded (fun s => liveCtx s = some { session queueMode with grade := 3 }) ∧
    Met (.raiseGrade hd 3) (strictWith 31 (live queueMode)) (fun s => (liveCtx s).isSome = true ∧
      actionRoom s = false) ∧
    Met (.raiseGrade hd 3) (live queueMode) (fun s => actionRoom s = true) := by
  and_intros <;> decide +kernel

theorem witness_AdjustSessionChangesCopy :
    let p := queueMode
    let s := holding 0 (speaking 0 .flag) (live p)
    Met (.adjustSession hd 3 15) up (fun s => liveCtx s = none) ∧
    Met (.adjustSession hd 3 14) (live p) (fun s => liveCtx s = some (session p) ∧ adjustProfile p 3 14 = none) ∧
    Met (.adjustSession hd 2 4) (live p) (fun _ => adjustProfile p 2 4 = some p) ∧
    Met (.adjustSession hd 3 15) (live p) (fun _ => adjustProfile p 3 15 = some { p with speakLimit := 15 } ∧
      { p with speakLimit := 15 } ≠ p) ∧
    Met (.adjustSession hd 6 2) (live p) (fun s => s.queue = [] ∧ adjustProfile p 6 2 = some { p with fullAction := .wait } ∧
      { p with fullAction := .wait } ≠ p) ∧
    Met (.adjustSession hd 2 6) (live p) (fun s => s.queue = [] ∧ adjustProfile p 2 6 = some { p with openLimit := 6 } ∧
      p.openLimit < 6) ∧
    Met (.adjustSession hd 14 15) (live p) (fun _ => adjustProfile p 14 15 = some { p with endLead := 15 } ∧
      { p with endLead := 15 } ≠ p ∧ 15 * 60 ≤ (session p).endAt ∧ (session p).endAt ≤ 4294967295) ∧
    Met (.adjustSession hd 2 1) s (fun s => liveCtx s = some (session p) ∧
      adjustProfile p 2 1 = some { p with openLimit := 1 } ∧ 1 < p.openLimit ∧ s.queue = [] ∧ FloorTables s) := by
  and_intros <;> decide +kernel

theorem witness_SwitchPlanTakesPlan :
    Met (.switchPlan hd 7) up (fun s => liveCtx s = none) ∧
    Met (.switchPlan hd 8) (live queueMode) (fun s => liveCtx s = some (session queueMode)) ∧
    Met (.switchPlan hd 0) (live queueMode) (fun _ => 0 = (session queueMode).plan) ∧
    Met (.switchPlan hd 7) (strictWith 31 (live queueMode)) (fun s => (liveCtx s).isSome = true ∧
      actionRoom s = false) ∧
    Met (.switchPlan hd 7) (live queueMode) (fun s => 7 ≠ (session queueMode).plan ∧ actionRoom s = true ∧
      s.queue = [] ∧ channels s = [] ∧ s.chan.holders = [] ∧ s.share.holder = none ∧ s.share.waiting = []) := by
  and_intros <;> decide +kernel

/-- Priority held by seat 1. -/
def prior (m : PriorityMode) (s : State) : State := { s with chan := { s.chan with holders := [1], holdMode := some m } }

theorem witness_GrantOpensMicrophone :
    let one := live { queueMode with openLimit := 1 }
    let busy := holding 0 (speaking 0 .flag) one
    Met (.grant hd 3 0) up (fun s => liveCtx s = none) ∧
    Met (.grant hd 0 0) one (fun s => liveCtx s ≠ none) ∧ Met (.grant hd 81 0) one (fun s => liveCtx s ≠ none) ∧
    Met (.grant hd 3 2) one (fun s => liveCtx s ≠ none) ∧
    Met (.grant hd 5 0) one (fun s => present s 5 = false) ∧
    Met (.grant hd 3 0) busy (fun s => present s 3 = true ∧ micOpen s 3 = true) ∧
    Met (.grant hd 1 0) (strictWith 28 one) (fun s => present s 1 = true ∧ enabledSeat s 1 = true ∧
      micOpen s 1 = false ∧ chairSeat s 1 = true ∧ (liveCtx s).isSome = true ∧ micRoom s false = true ∧
      freeChannel s = some 0) ∧
    Met (.grant hd 1 0) (strictWith 29 one) (fun s => present s 1 = true ∧ enabledSeat s 1 = true ∧
      micOpen s 1 = false ∧ chairSeat s 1 = true ∧ micRoom s false = false) ∧
    Met (.grant hd 80 1) (prior .close one) (fun s => present s 80 = true ∧ enabledSeat s 80 = true ∧
      micOpen s 80 = false ∧ chairSeat s 80 = false ∧ priorityHeld s .close = true) ∧
    Met (.grant hd 80 0) busy (fun s => chairSeat s 80 = false ∧ priorityHeld s .close = false ∧
      1 ≤ delegateCount s ∧ micOpen s 80 = false) ∧
    Met (.grant hd 80 0) (strictWith 29 one) (fun s => present s 80 = true ∧ chairSeat s 80 = false ∧
      priorityHeld s .close = false ∧ delegateCount s < 1 ∧ micRoom s false = false) ∧
    Met (.grant hd 80 0) (prior .duck one) (fun s => present s 80 = true ∧ chairSeat s 80 = false ∧
      priorityHeld s .close = false ∧ delegateCount s < 1 ∧ micRoom s false = true ∧ freeChannel s = some 0) ∧
    Met (.grant hd 80 1) busy (fun s => liveCtx s = some (session { queueMode with openLimit := 1 }) ∧
      present s 80 = true ∧ enabledSeat s 80 = true ∧ micOpen s 80 = false ∧ chairSeat s 80 = false ∧
      priorityHeld s .close = false ∧ 1 ≤ delegateCount s ∧ earliestDelegate s = some 3 ∧
      replaceAllowed s 80 = true ∧ FloorTables s) := by
  and_intros <;> decide +kernel

theorem witness_CloseOrdersFreeChannels :
    let s := holding 7 (speaking 0 .flag) (live queueMode)
    Met (.close hd 3) up (fun s => liveCtx s = none) ∧
    Met (.close hd 0) (live queueMode) (fun s => liveCtx s ≠ none) ∧
    Met (.close hd 81) (live queueMode) (fun s => liveCtx s ≠ none) ∧
    Met (.close hd 80) (live queueMode) (fun s => liveCtx s ≠ none ∧ micOpen s 80 = false) ∧
    Met (.close hd 3) s (fun s => liveCtx s ≠ none ∧ channelOf s 3 = some 7 ∧
      channelAt s 7 = some (speaking 0 .flag) ∧ s.queue = [] ∧ FloorTables s) ∧
    Met (.close hd 3) { holding 7 (speaking 0 .flag) (live { queueMode with openLimit := 1 }) with queue := [80] }
      (fun s => channelOf s 3 = some 7 ∧ (speaking 0 .flag).category = .delegate ∧
        (liveCtx s).map (fun c => (c.profile.floorMode, c.profile.openLimit, c.mode)) = some (.queue, 1, .loose) ∧
        present s 80 = true ∧ enabledSeat s 80 = true ∧ chairSeat s 80 = false ∧ delegateCount s ≤ 1 ∧
        priorityHeld s .close = false ∧ FloorTables s) ∧
    Met (.closeAll hd 0) up (fun s => liveCtx s = none) ∧
    Met (.closeAll hd 2) s (fun s => liveCtx s ≠ none) ∧
    Met (.closeAll hd 1) s (fun s => liveCtx s ≠ none ∧ s.queue = [] ∧ FloorTables s) ∧
    Met (.closeAll hd 0) s (fun s => liveCtx s ≠ none ∧ s.queue = [] ∧ FloorTables s) := by
  and_intros <;> decide +kernel

/-- Seats wait in the queue. -/
def queued (l : List Nat) (s : State) : State := { s with queue := l }

theorem witness_QueueOrdersReshapeQueue :
    let s := live chairMode
    Met (.queueInsert hd 3 1) up (fun s => liveCtx s = none) ∧
    Met (.queueInsert hd 0 1) s (fun s => liveCtx s ≠ none) ∧ Met (.queueInsert hd 81 1) s (fun s => liveCtx s ≠ none) ∧
    Met (.queueInsert hd 1 1) s (fun s => liveCtx s ≠ none ∧ chairSeat s 1 = true) ∧
    Met (.queueInsert hd 3 1) (queued (List.range' 10 32) s) (fun s => liveCtx s ≠ none ∧ present s 3 = true ∧
      enabledSeat s 3 = true ∧ chairSeat s 3 = false ∧ 3 ∉ s.queue ∧ micOpen s 3 = false ∧ 32 ≤ s.queue.length) ∧
    Met (.queueInsert hd 3 33) (queued (List.range' 10 31) s) (fun s => 3 ∉ s.queue ∧ s.queue.length < 32 ∧
      s.queue.length + 1 < 33) ∧
    Met (.queueInsert hd 80 32) (queued (List.range' 10 31) s) (fun s => present s 80 = true ∧ 80 ∉ s.queue ∧
      micOpen s 80 = false ∧ chairSeat s 80 = false ∧ enabledSeat s 80 = true ∧ 32 ≤ s.queue.length + 1 ∧
      autoMode s = false) ∧
    Met (.queueInsert hd 80 1) (live queueMode) (fun s => liveCtx s ≠ none ∧ present s 80 = true ∧
      enabledSeat s 80 = true ∧ chairSeat s 80 = false ∧ 80 ∉ s.queue ∧ micOpen s 80 = false ∧ autoMode s = true ∧
      s.queue = [] ∧ delegateCount s < 4 ∧ priorityHeld s .close = false ∧ freeChannel s = some 0 ∧
      strictMode s = false) ∧
    Met (.queueInsert hd 80 1) (strictWith 26 (live queueMode)) (fun s => autoMode s = true ∧ strictMode s = true ∧
      openCount s + laneHeld s + 6 ≤ freeEntries s ∧ freeChannel s = some 0) ∧
    Met (.queueRemove hd 3) up (fun s => liveCtx s = none) ∧
    Met (.queueRemove hd 0) s (fun s => liveCtx s ≠ none) ∧ Met (.queueRemove hd 3) s (fun s => 3 ∉ s.queue) ∧
    Met (.queueRemove hd 80) (queued [3, 80] s) (fun s => liveCtx s ≠ none ∧ 80 ∈ s.queue ∧ FloorTables s ∧
      autoMode s = false) ∧
    Met (.queueRemove hd 3) (queued [3, 80] (live queueMode)) (fun s => liveCtx s ≠ none ∧ 3 ∈ s.queue ∧
      FloorTables s) ∧
    Met (.queueClear hd) up (fun s => liveCtx s = none) ∧
    Met (.queueClear hd) (queued [3, 80] s) (fun s => liveCtx s ≠ none) := by
  and_intros <;> decide +kernel

theorem witness_ShareOrdersMoveLane :
    let s := live queueMode
    let waits := { s with share := { s.share with waiting := [79, 80] } }
    Met (.shareGrant hd 3) up (fun s => liveCtx s = none) ∧
    Met (.shareGrant hd 0) s (fun s => liveCtx s ≠ none) ∧ Met (.shareGrant hd 81) s (fun s => liveCtx s ≠ none) ∧
    Met (.shareGrant hd 5) s (fun s => liveCtx s ≠ none ∧ present s 5 = false) ∧
    Met (.shareGrant hd 80) (sharing none s) (fun s => present s 80 = true ∧ isHolder s 80 = true) ∧
    Met (.shareGrant hd 1) (strictWith 29 s) (fun s => liveCtx s ≠ none ∧ isHolder s 1 = false ∧
      eligibleSix s 1 = true ∧ shareRoom s s.share.holder.isSome = false) ∧
    Met (.shareGrant hd 1) (strictWith 28 s) (fun s => eligibleSix s 1 = true ∧
      shareRoom s s.share.holder.isSome = true) ∧
    Met (.shareGrant hd 1) (sharing none s) (fun s => isHolder s 1 = false ∧ eligibleSix s 1 = true ∧
      shareRoom s s.share.holder.isSome = true) ∧
    Met (.shareEnd hd) up (fun s => liveCtx s = none) ∧
    Met (.shareEnd hd) s (fun s => liveCtx s ≠ none ∧ s.share.holder = none) ∧
    Met (.shareEnd hd) (sharing (some 5) s) (fun s => liveCtx s ≠ none ∧
      s.share.holder = some { seat := 80, basis := .speaker, far := true } ∧ s.share.waiting = []) ∧
    Met (.shareClearWaiting hd) waits (fun s => liveCtx s ≠ none) ∧
    Met (.shareClearWaiting hd) up (fun s => liveCtx s = none) := by
  and_intros <;> decide +kernel

theorem witness_KeysActOnTheFloor :
    let s := out none .idle up
    let c := out none .idle (live chairMode)
    let d := holding 0 (speaking 31 .flag) (out none .idle (live queueMode))
    (mainRunning s = true ∧ s.ring.flight = some (flightOf none .idle) ∧ s.ring.broken = false ∧
      present s 1 = true ∧ present s 80 = true ∧ (station s 80).call = false ∧
      (station (setStation 80 { rec' .present with call := true } s) 80).call = true) ∧
    (mainRunning c = true ∧ c.ring.flight = some (flightOf none .idle) ∧ present c 80 = true ∧
      liveCtx c = some (session chairMode) ∧ (session chairMode).profile.floorMode = .chair ∧
      chairSeat c 80 = false ∧ enabledSeat c 80 = true ∧ micOpen c 80 = false ∧ 80 ∉ c.queue ∧ c.queue.length < 32) ∧
    (d.ring.flight = some (flightOf none .idle) ∧ present d 1 = true ∧ liveCtx d = some (session queueMode) ∧
      chairSeat d 1 = true ∧ d.chan.holders = [] ∧ (session queueMode).profile.priorityMode = .duck ∧ FloorTables d ∧
      channelAt d 0 = some (speaking 31 .flag)) := by
  and_intros <;> decide +kernel

/-- Tile 95 drawn whole in both banks. -/
def tiled (s : State) : State :=
  let b : Bank := Vector.replicate 16 (some (List.replicate 16 0))
  { s with panel := { s.panel with tiles := s.panel.tiles.setIfInBounds 95 { front := b, back := b } } }

theorem witness_PanelOrdersStageAndStart :
    let one : TargetSet := { form := 0, seats := [80] }
    let bad : TargetSet := { form := 3, seats := [] }
    let staged := { up with panel := { up.panel with staged := some { op := .page .blank, targets := .all } } }
    let job : Job := { op := .page .agenda, targets := [80], piece := 0, inFlight := true, misses := 0,
                       clipped := false, built := none }
    let running := { up with panel := { up.panel with job := some job } }
    Met (.panelPage hd 5 bad) up (fun _ => targetsOf bad = none) ∧
    Met (.panelText hd 0 0 [] bad) up (fun _ => True) ∧ Met (.panelTile hd 0 0 0 0 bad) up (fun _ => True) ∧
    Met (.panelFill hd 0 0 0 0 0 0 bad) up (fun _ => True) ∧
    Met (.panelPage hd 5 one) up (fun s => targetsOf one = some (.list [80]) ∧ pageOf 5 = some .blank ∧
      s.panel.staged = none ∧ s.panel.job = none ∧ resolveTargets s (.list [80]) ≠ []) ∧
    Met (.panelPage hd 2 { form := 0, seats := [5] }) up (fun s => resolveTargets s (.list [5]) = []) ∧
    Met (.panelText hd 1 7 (List.replicate 24 65) one) up (fun _ => canvasOf 1 = some .message) ∧
    Met (.panelTile hd 95 1 255 127 one) (tiled up) (fun s => canvasOf 1 = some .message ∧
      Bank.loaded (tileAt s 95).front = true) ∧
    Met (.panelTile hd 95 1 255 127 one) up (fun s => targetsOf one ≠ none ∧ canvasOf 1 ≠ none ∧
      Bank.loaded (tileAt s 95).front = false) ∧
    Met (.panelFill hd 0 0 255 0 127 1 one) up (fun _ => flagOf 1 = some true ∧ canvasOf 0 = some .agenda) ∧
    Met (.panelPage hd 0 one) staged (fun s => s.panel.staged ≠ none) ∧
    Met (.panelPage hd 0 one) running (fun s => s.panel.staged = none ∧ s.panel.job.isSome = true) := by
  and_intros <;> decide +kernel

theorem witness_ClipAndTileOrders :
    let all : TargetSet := { form := 1, seats := [] }
    let draw : Staged := { op := .tile 95 .agenda 0 0, targets := .all }
    let named := { tiled up with panel := { (tiled up).panel with staged := some draw } }
    Met (.setClip hd 1 0 0 127 all) up (fun _ => targetsOf all = some .all) ∧
    Met (.setClip hd 255 255 127 127 all) up (fun _ => True) ∧
    Met (.tileLoad hd 95 15 (List.replicate 16 255)) up (fun _ => True) ∧
    Met (.tileLoad hd 96 15 (List.replicate 16 255)) up (fun _ => True) ∧
    Met (.tileFlip hd 96) up (fun _ => True) ∧
    Met (.tileFlip hd 95) up (fun s => Bank.loaded (tileAt s 95).back = false) ∧
    Met (.tileFlip hd 95) named (fun s => Bank.loaded (tileAt s 95).back = true ∧ tileInUse s 95 = true) ∧
    Met (.tileFlip hd 95) (tiled up) (fun s => Bank.loaded (tileAt s 95).back = true ∧ tileInUse s 95 = false) := by
  and_intros <;> decide +kernel

theorem witness_LogOrders :
    let full := { live queueMode with minutes := (strictWith 32 (live queueMode)).minutes }
    Met (.setLogMode hd 2) up (fun _ => True) ∧ Met (.setLogMode hd 1) up (fun s => liveCtx s = none) ∧
    Met (.setLogMode hd 1) (live queueMode) (fun s => liveCtx s = some (session queueMode) ∧
      (session queueMode).mode = .loose) ∧
    Met (.setLogMode hd 0) full (fun s => liveCtx s = some (session queueMode) ∧
      32 - s.minutes.queue.length < openCount s + (if s.share.holder.isSome = true then 1 else 0) + 1) ∧
    Met (.setLogMode hd 0) (live queueMode) (fun s => s.queue = [] ∧ s.share.waiting = [] ∧
      openCount s + (if s.share.holder.isSome = true then 1 else 0) + 1 ≤ 32 - s.minutes.queue.length) ∧
    Met (.setLogRange hd 0 1 0 80 7) up (fun _ => True) ∧ Met (.setLogRange hd 0 1 1 80 7) up (fun _ => True) ∧
    Met (.setLogRange hd 1 0 80 80 0) (live queueMode) (fun s => (liveCtx s).isSome = true) := by
  and_intros <;> decide +kernel

theorem witness_StationOrdersChangeRecord :
    let s (n : Nat) (r : Station) := setStation n r up
    Met (.forget hd 0) up (fun _ => True) ∧ Met (.forget hd 84) up (fun _ => True) ∧
    Met (.forget hd 83) up (fun s => (station s 83).state ≠ .vacant ∧ (station s 83).state ≠ .silent) ∧
    Met (.forget hd 5) up (fun s => (station s 5).state = .vacant ∧ (station s 5).call = false) ∧
    Met (.forget hd 83) (s 83 (rec' .silent)) (fun s => (station s 83).state = .silent) ∧
    Met (.clearCall hd 81) up (fun _ => True) ∧ Met (.clearCall hd 80) up (fun s => (station s 80).call = false) ∧
    Met (.clearCall hd 1) (s 1 { rec' .present with call := true }) (fun s => (station s 1).call = true) ∧
    Met (.resumeSeat hd 81) up (fun _ => True) ∧ Met (.resumeSeat hd 1) up (fun s => (station s 1).state ≠ .halted) ∧
    Met (.resumeSeat hd 80) (s 80 (rec' .halted)) (fun s => (station s 80).state = .halted ∧
      (station s 80).heldResume = false ∧ resumeOut s 80 = false) ∧
    Met (.resumeSeat hd 80) (s 80 { rec' .halted with haltOver := true }) (fun s => (station s 80).haltOver = true) ∧
    Met (.resumeSeat hd 80) (s 80 { rec' .halted with heldResume := true }) (fun s => (station s 80).heldResume = true) ∧
    Met (.unbypass hd 84) up (fun _ => True) ∧ Met (.unbypass hd 83) up (fun s => (station s 83).state ≠ .bypassed) ∧
    Met (.unbypass hd 83) (s 83 (rec' .bypassed)) (fun s => (station s 83).state = .bypassed) := by
  and_intros <;> decide +kernel

/-! ### One step each: the manual's own numbers -/

/-- What a command leaves. -/
def after (i : Instr) (s : State) : State :=
  match exec i s with
  | .next t => t
  | _ => s

/-- R206, and line 5 of example 11.5: with a session resumed by the restart, frame 0 goes out at IDLE and frame 1 at FULL. -/
theorem test_first_frame_is_idle :
    let s := after (.mainsReturn .ok)
      { State.reset with supply := .hold, hold := (table 3600 [entry true 5 0 36000] State.reset).hold }
    let t := after .frameEmit s
    s.ctx.isSome = true ∧ s.sup.cadence = .full ∧ t.ring.flight.map Flight.cadence = some .idle ∧
    (after .frameEmit t).ring.flight.map Flight.cadence = some .full := by
  and_intros <;> decide +kernel

/-- R167: a LAMP is built at its offer and waits while a MIC goes first; a later change of the lamp brings a second one. -/
theorem test_lamp_waits_as_built :
    let s := after .frameEmit (markLamp 3 (placing fun x => { x with class1 := [.mic 3] }))
    let lamp (b : Bool) : OutCell := .lamp 3 { lamp := .off, call := b, chairBus := false }
    let t := markLamp 3 (setStation 3 { rec' .present with call := true } { s with ring := { s.ring with flight := none } })
    let u := after .frameEmit { t with ring := { t.ring with nextFrame := 1 } }
    s.sched.presentation = some (lamp false) ∧ u.ring.flight.bind Flight.cell = some (lamp false) ∧
    u.sched.presentation = some (lamp true) := by
  and_intros <;> decide +kernel

/-- R167: what gets ready while no cell waits is offered within the step: the page of a PANEL PAGE is built before the END NOW
that comes after it, whose BLANK follows (R150). -/
theorem test_arbiter_acts_in_the_step :
    let order := Instr.panelPage hd 2 { form := 0, seats := [3] }
    let s := after order (headed order (live queueMode))
    let t := after (.endNow hd) (headed (.endNow hd) s)
    let page : OutCell := .piece 3 true (.page .agenda)
    s.sched.presentation = some page ∧ (panelOf s 3).page = .agenda ∧ (panelOf s 3).pageDirty = false ∧
    t.sched.presentation = some page ∧ (panelOf t 3).page = .blank ∧ (panelOf t 3).pageDirty = true := by
  and_intros <;> decide +kernel

/-- R166: a piece that waits when its seat departs is placed all the same, and no longer counts. -/
theorem test_departure_disowns_piece :
    let order := Instr.panelPage hd 2 { form := 0, seats := [3, 4] }
    let s := after order (headed order up)
    let t := panelDepart 3 s
    s.sched.presentation = some (.piece 3 true (.page .agenda)) ∧
    t.sched.presentation = some (.piece 3 false (.page .agenda)) ∧
    t.panel.job.map (fun j => (j.targets, j.inFlight)) = some ([4], false) := by
  and_intros <;> decide +kernel

/-- R166, R163: the executor looks at the next seat's piece when it next has the turn. A SET CLIP between the departure of
seat 3 and that turn decides what seat 4 is sent. -/
theorem test_set_clip_before_the_turn :
    let order := Instr.panelFill hd 0 0 9 0 9 1 { form := 0, seats := [3, 4] }
    let clip (x : Nat) (s : State) : State :=
      setPanelOf 4 { panelOf s 4 with window := { x0 := x, x1 := x, y0 := x, y1 := x } } s
    let placed (s : State) : State := { s with sched := { s.sched with presentation := none } }
    let s := panelDepart 3 (after order (headed order (clip 20 up)))
    s.panel.job.map (fun j => (j.targets, j.clipped)) = some ([4], false) ∧
    (offerPresentation (placed (clip 5 s))).sched.presentation = some (.piece 4 true (.fill .agenda 5 5 5 5 true)) ∧
    (offerPresentation (placed s)).panel.job = none := by
  and_intros <;> decide +kernel

/-- R166: the outcome of a piece that was in flight at its seat's departure is disregarded; the next seat's piece, offered at
the departure, stays the job's. -/
theorem test_departure_in_flight :
    let order := Instr.panelPage hd 2 { form := 0, seats := [3, 4] }
    let r := after order (headed order (placing id))
    let s := after .frameEmit { r with sched := { r.sched with class2 := [] } }
    let t := after (.haltSeat hd 3) (headed (.haltSeat hd 3) s)
    let u := after (.frameReturn 4095 [] silentSlots) t
    s.ring.flight.bind Flight.cell = some (.piece 3 true (.page .agenda)) ∧
    t.sched.presentation = some (.piece 4 true (.page .agenda)) ∧
    t.panel.job.map (fun j => (j.targets, j.inFlight)) = some ([4], true) ∧ u.panel.job = t.panel.job := by
  and_intros <;> decide +kernel

/-- R98, R175, R176: a replacement of the lane's holder with share grace 0, at the last free count that its test takes. The
records stand in the order MIC CLOSE, MIC OPEN, SHARE END, the handover finds no room, and the reserve is kept. -/
theorem test_replacement_keeps_reserve :
    let p := { queueMode with openLimit := 1, shareGrace := 0, sharePolicy := .right }
    let s := strictWith 26 (holding 0 { speaking 9 .flag with seat := 80 } (sharing none (live p)))
    let t := (replaceMic 79 .order .order { s with share := { s.share with waiting := [79] } }).2
    replaceAllowed s 79 = true ∧
    (t.minutes.queue.drop 26).map MinuteRecord.kind = [.micClose, .micOpen, .shareEnd] ∧
    reserve t ≤ freeEntries t ∧ replaceAllowed (strictWith 27 s) 79 = false := by
  and_intros <;> decide +kernel

/-- R98, R99: the same replacement under LOOSE. The close is whole before the open: the share ends and the lane is handed over
between the two MIC records. -/
theorem test_replacement_loose :
    let p := { queueMode with openLimit := 1, shareGrace := 0, sharePolicy := .right }
    let s := holding 0 { speaking 9 .flag with seat := 80 } (sharing none (live p))
    let t := (replaceMic 79 .order .order { s with share := { s.share with waiting := [79] } }).2
    t.minutes.queue.map MinuteRecord.kind = [.micClose, .shareEnd, .shareStart, .micOpen] := by
  decide +kernel

theorem test_no_word_spells_a_command : decodeTableWord 16 0x1234 = none := rfl

/-- The check of R8 over the nine digits, whose value for this polynomial and start is 0x29B1. -/
theorem test_crc16 : crc16 [0x31, 0x32, 0x33, 0x34, 0x35, 0x36, 0x37, 0x38, 0x39] = 0x29B1#16 := by decide +kernel

/-- Example 6.6: the two rounded products. -/
theorem test_gain_example_6_6 :
    gainProduct 20 4000000 = 126491 ∧ gainProduct 36 2000000 = 1002374 ∧ gainProduct 20 (-4000000) = -126491 := by
  decide +kernel

/-- Example 2.9: the table at the start. -/
def example29 : State :=
  let t := table 29550 [entry true 13 28800 31500, entry false 14 34200 37800, entry false 15 39600 43200,
    entry false 16 46800 50400] up
  { t with hold := { t.hold with horizon := 32400, nextId := 17 } }

/-- The status and the result that an order is answered with. -/
def answerTo (i : Instr) (s : State) : Option (Status × List Byte) :=
  match exec i (headed i s) with
  | .next t => match t.sched.class2.getLast? with
    | some (.answer a) => some (a.status, a.result)
    | _ => none
  | _ => none

theorem test_example_2_9 :
    answerTo (.book hd (fields 31800 33600)) example29 = some (.frozen, []) ∧
    answerTo (.book hd (fields 32400 34200)) example29 = some (.overlap, [0, 14]) ∧
    answerTo (.book hd (fields 32400 33900)) example29 = some (.done, [0, 17]) ∧
    answerTo (.cancel hd 16) example29 = some (.done, []) ∧
    answerTo (.book hd (fields 43500 43680)) example29 = some (.range, []) := by
  and_intros <;> decide +kernel

/-- Example "walk-in times" of chapter 3: at 09:41:20, with a booking at 10:30, the walk-in ends at 10:25. -/
theorem test_walk_in_example :
    let s := table 34880 [entry false 5 37800 41400] up
    windowWide s = true ∧ walkInEnd s = 37500 ∧ windowWide (table 36905 [entry false 5 37800 41400] up) = false := by
  and_intros <;> decide +kernel

/-- The table of chapter 6, "losing and recovering the house clock": its lines one by one. -/
theorem test_clock_example :
    answerTo (.clearClockFault hd) (clocked .external .internal true false) = some (.state, []) ∧
    answerTo (.clearClockFault hd) (clocked .external .internal true true) = some (.done, []) := by
  and_intros <;> decide +kernel

end Sys2Proof.Tests.Slice0
end

section
/-! PROOFS. The microphone channels (chapter 5): the speak timers at an increment and at their end, and the orders GRANT,
CLOSE and CLOSE ALL. The laws of the channel table, of an open and of a close come first; each statement is settled from
them at the end of its part. -/

namespace Sys2Proof.MicrophoneChannels

open Sys2Proof Sys2Proof.Machine

/-! ### What leaves the floor alone -/

/-- The channels, the request queue and the marks that wait all stand; further marks may have joined them. -/
structure FloorKept (s t : State) : Prop where
  chan : t.chan = s.chan
  queue : t.queue = s.queue
  marks : s.sched.class1 ⊆ t.sched.class1

theorem FloorKept.refl (s : State) : FloorKept s s := ⟨rfl, rfl, fun _ h => h⟩

theorem FloorKept.trans {s t u : State} (a : FloorKept s t) (b : FloorKept t u) : FloorKept s u :=
  ⟨b.chan.trans a.chan, b.queue.trans a.queue, fun _ h => b.marks (a.marks h)⟩

theorem FloorKept.ite {s t u : State} {c : Prop} [Decidable c] (a : FloorKept s t) (b : FloorKept s u) :
    FloorKept s (if c then t else u) := by
  split <;> assumption

theorem FloorKept.channelAt {s t : State} (a : FloorKept s t) (k : Nat) : channelAt t k = channelAt s k := by
  simp only [Machine.channelAt, a.chan]

theorem FloorKept.of_arbiterFrame {s t : State} (a : ArbiterFrame s t) : FloorKept s t := by
  obtain ⟨_, queue, chan, _, _, class1, _⟩ := a
  exact ⟨chan, queue, fun _ h => class1 ▸ h⟩

theorem settle_kept (s : State) : FloorKept s (settle s) := .of_arbiterFrame (settle_arbiterFrame s)

theorem setPanel_kept (s : State) (x) : FloorKept s (s.setPanel x) := .of_arbiterFrame (setPanel_arbiterFrame s x)

theorem setShare_kept (s : State) (x) : FloorKept s (s.setShare x) := ⟨rfl, rfl, fun _ h => h⟩

theorem setMinutes_kept (s : State) (x) : FloorKept s (s.setMinutes x) := ⟨rfl, rfl, fun _ h => h⟩

theorem setOrders_kept (s : State) (x) : FloorKept s (s.setOrders x) := ⟨rfl, rfl, fun _ h => h⟩

theorem markLamp_arbiterFrame (n : Nat) (s : State) : ArbiterFrame s (markLamp n s) := setPanelOf_arbiterFrame n _ s

theorem markLamp_kept (n : Nat) (s : State) : FloorKept s (markLamp n s) := .of_arbiterFrame (markLamp_arbiterFrame n s)

theorem markLists_kept (pages : List Page) (s : State) : FloorKept s (markLists pages s) := setPanel_kept s _

theorem offerMark_kept (m : Mark) (s : State) : FloorKept s (offerMark m s) := by
  refine ⟨?_, ?_, fun _ h => offerMark_keeps h⟩ <;> unfold offerMark <;> split <;> rfl

theorem setNotice_kept (n : Nat) (x : Notice) (s : State) : FloorKept s (setNotice n x s) := by
  unfold setNotice
  exact .ite (.refl s) (setOrders_kept s _)

theorem raise_kept (c : Cause) (event value : Nat) (s : State) : FloorKept s (raise c event value s) := by
  unfold raise
  exact .ite ((setNotice_kept _ _ s).trans (.of_arbiterFrame (offerAlert_arbiterFrame _))) (setNotice_kept _ _ s)

/-! The minutes unit. -/

theorem offerMinute_kept (s : State) : FloorKept s (offerMinute s) := by
  unfold offerMinute
  split
  · exact .refl s
  · exact .ite ⟨rfl, rfl, fun _ h => h⟩ (.refl s)

theorem appendRecord_kept (r : RecRequest) (s : State) : FloorKept s (appendRecord r s) :=
  (setMinutes_kept s _).trans (offerMinute_kept _)

theorem dropRecord_kept (k : RecKind) (s : State) : FloorKept s (dropRecord k s) := by
  unfold dropRecord
  exact .ite ((setMinutes_kept s _).trans (raise_kept _ _ _ _)) (setMinutes_kept s _)

theorem fitGap_kept (k : RecKind) (s : State) : FloorKept s (fitGap k s) := by
  unfold fitGap
  exact .ite ((appendRecord_kept _ s).trans (setMinutes_kept _ _)) (.refl s)

theorem admitRecord_kept (r : RecRequest) (s : State) : FloorKept s (admitRecord r s) := by
  unfold admitRecord
  exact .ite (.refl s) (.ite ((fitGap_kept _ s).trans (appendRecord_kept _ _)) (dropRecord_kept _ s))

/-! The share controller. -/

theorem grantLane_kept (n : Nat) (cause : Reason) (s : State) : FloorKept s (grantLane n cause s) := by
  unfold grantLane
  exact ((((setShare_kept s _).trans (setShare_kept _ _)).trans (admitRecord_kept _ _)).trans
    ((offerMark_kept _ _).trans (offerMark_kept _ _))).trans (markLists_kept _ _)

theorem handoverGo_kept (l : List Nat) (s : State) : FloorKept s (handoverGo l s) := by
  induction l generalizing s with
  | nil => exact .refl s
  | cons n l ih =>
      unfold handoverGo
      exact .ite ((setShare_kept s _).trans (ih _))
        (.ite (grantLane_kept n _ s) (.ite (.refl s) ((setShare_kept s _).trans (raise_kept _ _ _ _))))

theorem handover_kept (s : State) : FloorKept s (handover s) := by
  unfold handover
  exact .ite (handoverGo_kept _ s) (.refl s)

theorem endShareOnly_kept (reason : Reason) (s : State) : FloorKept s (endShareOnly reason s) := by
  unfold endShareOnly
  split
  · exact .refl s
  · exact (((admitRecord_kept _ s).trans (setShare_kept _ _)).trans
      ((offerMark_kept _ _).trans (offerMark_kept _ _))).trans (markLists_kept _ _)

theorem endShare_kept (reason : Reason) (s : State) : FloorKept s (endShare reason s) := by
  unfold endShare
  split
  · exact .refl s
  · exact (endShareOnly_kept reason s).trans (handover_kept _)

theorem startGrace_kept (s : State) : FloorKept s (startGrace s) := by
  unfold startGrace
  split
  · exact .ite (endShare_kept _ s) (setShare_kept s _)
  · exact .refl s

theorem shareMicClosed_kept (n : Nat) (s : State) : FloorKept s (shareMicClosed n s) := by
  unfold shareMicClosed
  exact .ite (startGrace_kept s) (.refl s)

theorem shareMicOpened_kept (n : Nat) (s : State) : FloorKept s (shareMicOpened n s) := by
  unfold shareMicOpened
  exact .ite (setShare_kept s _) (.refl s)

/-! ### What the other blocks say of a seat -/

/-- What the tests of R96 read outside the floor stands where the other blocks do. -/
theorem liveCtx_of_floorFrame {s t : State} (a : FloorFrame s t) : liveCtx t = liveCtx s := by
  obtain ⟨_, _, _, _, _, _, _, ctx, _⟩ := a
  simp only [liveCtx, ctx]

theorem present_of_floorFrame {s t : State} (a : FloorFrame s t) (n : Nat) : present t n = present s n := by
  obtain ⟨_, _, _, _, _, stn, _⟩ := a
  unfold present station
  rw [stn]

theorem enabledSeat_of_floorFrame {s t : State} (a : FloorFrame s t) (n : Nat) :
    enabledSeat t n = enabledSeat s n := by
  have live := liveCtx_of_floorFrame a
  obtain ⟨_, _, _, hold, _⟩ := a
  simp only [enabledSeat, live, planAt, hold]

theorem chairSeat_of_floorFrame {s t : State} (a : FloorFrame s t) (n : Nat) : chairSeat t n = chairSeat s n := by
  have live := liveCtx_of_floorFrame a
  obtain ⟨_, _, _, hold, _⟩ := a
  simp only [chairSeat, chairSeats, live, planAt, hold]

/-- The context of a LIVE session is the one the session controller holds. -/
theorem ctx_of_liveCtx {s : State} {c : Session} (h : liveCtx s = some c) : s.ctx = some c := by
  unfold liveCtx at h
  split at h
  · cases h
  · split at h
    · cases h
    · rename_i e _
      exact e.trans h

/-! ### The channel table -/

theorem channelAt_eq_none_of_le {s : State} {k : Nat} (h : 8 ≤ k) : channelAt s k = none := by
  simp [channelAt, Nat.not_lt.mpr h]

theorem lt_of_channelAt {s : State} {k : Nat} {e : Channel} (h : channelAt s k = some e) : k < 8 := by
  refine Nat.lt_of_not_le fun hk => ?_
  rw [channelAt_eq_none_of_le hk] at h
  cases h

/-- Two tables that agree on the listed channels list the same entries. -/
theorem filterMap_congr_of_mem {l : List Nat} {f g : Nat → Option Channel} (h : ∀ k ∈ l, f k = g k) :
    l.filterMap f = l.filterMap g := by
  have entries := congrArg (List.filterMap id) (List.map_congr_left h)
  rw [List.filterMap_map, List.filterMap_map] at entries
  exact entries

/-- The entries in channel order, read channel by channel. -/
theorem channels_eq_filterMap (s : State) : channels s = (List.range 8).filterMap (channelAt s) := by
  have table : s.chan.table.toList = (List.range 8).map (channelAt s) := by
    apply List.ext_getElem?
    intro k
    by_cases hk : k < 8
    · simp [channelAt, hk]
    · simp [hk]
  rw [channels, table, List.filterMap_map]
  rfl

/-- No two channels are held by one seat. -/
def SeatsDistinct (s : State) : Prop :=
  ∀ j k e f, channelAt s j = some e → channelAt s k = some f → e.seat = f.seat → j = k

theorem seatsDistinct_of_floorTables {s : State} (h : FloorTables s) : SeatsDistinct s := by
  obtain ⟨_, _, _, _, _, _, seats, _⟩ := h
  intro j k e f he hf hs
  rw [channels_eq_filterMap, List.Nodup, List.pairwise_map, List.pairwise_filterMap, List.pairwise_iff_getElem] at seats
  simp only [List.length_range, List.getElem_range] at seats
  have hj := lt_of_channelAt he
  have hk := lt_of_channelAt hf
  rcases Nat.lt_trichotomy j k with lt | eq | gt
  · exact absurd hs (seats j k hj hk lt e he f hf)
  · exact eq
  · exact absurd hs.symm (seats k j hk hj gt f hf e he)

/-- The channel that a seat is found at is held by it. -/
theorem channelAt_of_channelOf {s : State} {n k : Nat} (h : channelOf s n = some k) :
    ∃ e, channelAt s k = some e ∧ e.seat = n := by
  have found := List.find?_some h
  split at found
  · cases found
  · rename_i e he
    exact ⟨e, he, by simpa using found⟩

theorem channelOf_eq_none {s : State} {n : Nat} : channelOf s n = none ↔ micOpen s n = false := by
  simp [micOpen]

/-- A seat has no open microphone exactly when no channel is its. -/
theorem micOpen_eq_false_iff {s : State} {n : Nat} :
    micOpen s n = false ↔ ∀ k e, channelAt s k = some e → e.seat ≠ n := by
  rw [← channelOf_eq_none, channelOf, List.find?_eq_none]
  constructor
  · intro h k e he hs
    have := h k (List.mem_range.mpr (lt_of_channelAt he))
    simp [he, hs] at this
  · intro h k _
    split
    · simp
    · rename_i e he
      simpa using h k e he

theorem micOpen_of_channelAt {s : State} {k : Nat} {e : Channel} (h : channelAt s k = some e) :
    micOpen s e.seat = true := by
  cases hm : micOpen s e.seat with
  | true => rfl
  | false => exact absurd rfl (micOpen_eq_false_iff.mp hm k e h)

/-- A seat whose only channel is `k` is found there. -/
theorem channelOf_eq_of_unique {s : State} {k : Nat} {e : Channel} (he : channelAt s k = some e)
    (unique : ∀ j f, channelAt s j = some f → f.seat = e.seat → j = k) : channelOf s e.seat = some k := by
  obtain ⟨j, hj⟩ := Option.isSome_iff_exists.mp (micOpen_of_channelAt he)
  obtain ⟨f, hf, hs⟩ := channelAt_of_channelOf hj
  rw [hj, unique j f hf hs]

theorem channelOf_eq_of_distinct {s : State} (hd : SeatsDistinct s) {k : Nat} {e : Channel}
    (he : channelAt s k = some e) : channelOf s e.seat = some k :=
  channelOf_eq_of_unique he fun j f hf hs => hd j k f e hf he hs

theorem freeChannel_spec {s : State} {k : Nat} (h : freeChannel s = some k) : k < 8 ∧ channelAt s k = none := by
  refine ⟨List.mem_range.mp (List.mem_of_find?_eq_some h), ?_⟩
  simpa using List.find?_some h

theorem freeChannel_isSome {s : State} {k : Nat} (hk : k < 8) (h : channelAt s k = none) :
    ∃ j, freeChannel s = some j := by
  apply Option.isSome_iff_exists.mp
  simp only [freeChannel, List.find?_isSome, Option.isNone_iff_eq_none]
  exact ⟨k, List.mem_range.mpr hk, h⟩

/-- Where two tables differ in one channel alone, free in the one and held in the other, their entries differ in that
channel's alone. -/
theorem channels_perm_of_held {s t : State} {k : Nat} {e : Channel} (free : channelAt s k = none)
    (held : channelAt t k = some e) (others : ∀ j, j ≠ k → channelAt t j = channelAt s j) :
    (channels t).Perm (e :: channels s) := by
  have first : (List.range 8).Perm (k :: (List.range 8).erase k) :=
    List.perm_cons_erase (List.mem_range.mpr (lt_of_channelAt held))
  have rest : ((List.range 8).erase k).filterMap (channelAt t) = ((List.range 8).erase k).filterMap (channelAt s) :=
    filterMap_congr_of_mem fun j hj => others j (List.nodup_range.mem_erase_iff.mp hj).1
  have before : (channels s).Perm (((List.range 8).erase k).filterMap (channelAt s)) := by
    simpa only [channels_eq_filterMap, List.filterMap_cons_none free] using first.filterMap (channelAt s)
  have after : (channels t).Perm (e :: ((List.range 8).erase k).filterMap (channelAt t)) := by
    simpa only [channels_eq_filterMap, List.filterMap_cons_some held] using first.filterMap (channelAt t)
  exact (rest ▸ after).trans (before.symm.cons e)

theorem openCount_of_held {s t : State} {k : Nat} {e : Channel} (free : channelAt s k = none)
    (held : channelAt t k = some e) (others : ∀ j, j ≠ k → channelAt t j = channelAt s j) :
    openCount t = openCount s + 1 := (channels_perm_of_held free held others).length_eq

theorem delegateCount_of_held {s t : State} {k : Nat} {e : Channel} (free : channelAt s k = none)
    (held : channelAt t k = some e) (others : ∀ j, j ≠ k → channelAt t j = channelAt s j)
    (delegate : e.category = .delegate) : delegateCount t = delegateCount s + 1 := by
  have := ((channels_perm_of_held free held others).filter fun f => decide (f.category = .delegate)).length_eq
  simpa [delegateCount, delegate] using this

/-! ### A microphone closes (R99) -/

/-- Seat `n`'s channel `k` is free, and nothing else of the floor is different. -/
structure MicClosed (n k : Nat) (s t : State) : Prop where
  free : channelAt t k = none
  others : ∀ j, j ≠ k → channelAt t j = channelAt s j
  order : t.chan.order = s.chan.order.erase k
  holders : t.chan.holders = s.chan.holders
  holdMode : t.chan.holdMode = s.chan.holdMode
  queue : t.queue = s.queue
  marks : s.sched.class1 ⊆ t.sched.class1
  mark : .mic n ∈ t.sched.class1

theorem MicClosed.kept {n k : Nat} {s t u : State} (a : MicClosed n k s t) (b : FloorKept t u) : MicClosed n k s u where
  free := (b.channelAt k).trans a.free
  others j hj := (b.channelAt j).trans (a.others j hj)
  order := by rw [b.chan, a.order]
  holders := by rw [b.chan, a.holders]
  holdMode := by rw [b.chan, a.holdMode]
  queue := b.queue.trans a.queue
  marks _ h := b.marks (a.marks h)
  mark := b.marks a.mark

/-- The microphone's mark, its lamp and the SPEAKERS lists, which an open and a close offer alike (R97, R99). -/
theorem announce_kept (n : Nat) (s : State) :
    FloorKept s (markLists [.speakers] (markLamp n (offerMark (.mic n) s))) :=
  ((offerMark_kept _ s).trans (markLamp_kept n _)).trans (markLists_kept _ _)

theorem mic_mem_announce (n : Nat) (s : State) :
    .mic n ∈ (markLists [.speakers] (markLamp n (offerMark (.mic n) s))).sched.class1 :=
  ((markLamp_kept n _).trans (markLists_kept _ _)).marks (mem_offerMark _ s)

theorem closeEntry_closed {n k : Nat} {s : State} (h : channelOf s n = some k) (reason : Reason) :
    MicClosed n k s (closeEntry n reason s) := by
  obtain ⟨e, he, -⟩ := channelAt_of_channelOf h
  simp only [closeEntry, h, he]
  have recorded := admitRecord_kept { kind := .micClose, seat := some n, channel := some k, reason := reason,
                                      duration := some (s.hold.tableTime - e.openedAt) } s
  generalize admitRecord _ s = u at recorded ⊢
  have announced := announce_kept n ((setChannel k none u).setChan
    { (setChannel k none u).chan with order := (setChannel k none u).chan.order.erase k })
  exact
    { free := (announced.channelAt k).trans (channelAt_setChannel_self (lt_of_channelAt he) none u)
      others := fun j hj => (announced.channelAt j).trans
        ((channelAt_setChannel_ne hj none u).trans (recorded.channelAt j))
      order := by rw [announced.chan, ← recorded.chan]; rfl
      holders := by rw [announced.chan, ← recorded.chan]; rfl
      holdMode := by rw [announced.chan, ← recorded.chan]; rfl
      queue := announced.queue.trans recorded.queue
      marks := fun _ hm => announced.marks (recorded.marks hm)
      mark := mic_mem_announce n _ }

theorem closeMicOnly_closed {n k : Nat} {s : State} (h : channelOf s n = some k) (reason : Reason) :
    MicClosed n k s (closeMicOnly n reason s) := by
  simp only [closeMicOnly, h]
  exact (closeEntry_closed h reason).kept (shareMicClosed_kept n _)

theorem MicClosed.seatsDistinct {n k : Nat} {s t : State} (a : MicClosed n k s t) (hd : SeatsDistinct s) :
    SeatsDistinct t := by
  have before (j : Nat) (e : Channel) (he : channelAt t j = some e) : channelAt s j = some e := by
    by_cases hj : j = k
    · rw [hj, a.free] at he
      cases he
    · exact (a.others j hj).symm.trans he
  exact fun i j e f he hf hs => hd i j e f (before i e he) (before j f hf) hs

/-- The close of a microphone opens none. -/
theorem MicClosed.micOpen_of_closed {n k m : Nat} {s t : State} (a : MicClosed n k s t) (hm : micOpen s m = false) :
    micOpen t m = false := by
  refine micOpen_eq_false_iff.mpr fun j e he hs => ?_
  by_cases hj : j = k
  · rw [hj, a.free] at he
    cases he
  · exact micOpen_eq_false_iff.mp hm j e ((a.others j hj).symm.trans he) hs

theorem MicClosed.micOpen_self {n k : Nat} {s t : State} (a : MicClosed n k s t) (hd : SeatsDistinct s)
    (h : channelOf s n = some k) : micOpen t n = false := by
  obtain ⟨e, he, hs⟩ := channelAt_of_channelOf h
  refine micOpen_eq_false_iff.mpr fun j f hf hfs => ?_
  by_cases hj : j = k
  · rw [hj, a.free] at hf
    cases hf
  · exact hj (hd j k f e ((a.others j hj).symm.trans hf) he (hfs.trans hs.symm))

theorem MicClosed.openCount {n k : Nat} {e : Channel} {s t : State} (a : MicClosed n k s t)
    (he : channelAt s k = some e) : openCount s = openCount t + 1 :=
  openCount_of_held a.free he fun j hj => (a.others j hj).symm

theorem MicClosed.delegateCount {n k : Nat} {e : Channel} {s t : State} (a : MicClosed n k s t)
    (he : channelAt s k = some e) (delegate : e.category = .delegate) : delegateCount s = delegateCount t + 1 :=
  delegateCount_of_held a.free he (fun j hj => (a.others j hj).symm) delegate

theorem MicClosed.priorityHeld {n k : Nat} {s t : State} (a : MicClosed n k s t) (m : PriorityMode) :
    priorityHeld t m = priorityHeld s m := by
  simp only [Machine.priorityHeld, a.holders, a.holdMode]

/-! ### A microphone opens (R97) -/

/-- Seat `n` is open on channel `k` with the entry `e`, which was opened last, and has left the queue; nothing else of the
floor is different. -/
structure MicOpened (n k : Nat) (e : Channel) (s t : State) : Prop where
  held : channelAt t k = some e
  others : ∀ j, j ≠ k → channelAt t j = channelAt s j
  order : t.chan.order = s.chan.order ++ [k]
  holders : t.chan.holders = s.chan.holders
  queue : t.queue = s.queue.erase n
  marks : s.sched.class1 ⊆ t.sched.class1
  mark : .mic n ∈ t.sched.class1

theorem MicOpened.kept {n k : Nat} {e : Channel} {s t u : State} (a : MicOpened n k e s t) (b : FloorKept t u) :
    MicOpened n k e s u where
  held := (b.channelAt k).trans a.held
  others j hj := (b.channelAt j).trans (a.others j hj)
  order := by rw [b.chan, a.order]
  holders := by rw [b.chan, a.holders]
  queue := b.queue.trans a.queue
  marks _ h := b.marks (a.marks h)
  mark := b.marks a.mark

/-- A seat has left the queue; of the channels no more than the deferred seat is different (R86). -/
structure QueueLeft (n : Nat) (s t : State) : Prop where
  queue : t.queue = s.queue.erase n
  table : t.chan.table = s.chan.table
  order : t.chan.order = s.chan.order
  holders : t.chan.holders = s.chan.holders
  marks : s.sched.class1 ⊆ t.sched.class1

theorem queueLeave_left (n : Nat) (s : State) : QueueLeft n s (queueLeave n s) := by
  let left := (s.setQueue (s.queue.erase n)).setChan
    { s.chan with deferred := if s.chan.deferred = some n then none else s.chan.deferred }
  have marked : FloorKept left (queueLeave n s) := by
    unfold queueLeave
    refine FloorKept.trans ?_ (markLists_kept _ _)
    dsimp only
    split
    · exact markLamp_kept _ _
    · exact .refl _
  exact
    { queue := marked.queue
      table := by rw [marked.chan]; rfl
      order := by rw [marked.chan]; rfl
      holders := by rw [marked.chan]; rfl
      marks := marked.marks }

/-- An open takes its seat from the queue where it is queued. -/
theorem queueLeave_if_queued (n : Nat) (s : State) :
    QueueLeft n s (if s.queue.contains n then queueLeave n s else s) := by
  split
  · exact queueLeave_left n s
  · rename_i h
    exact ⟨(List.erase_of_not_mem (by simpa using h)).symm, rfl, rfl, rfl, fun _ hm => hm⟩

theorem openMic_opened {n k : Nat} {c : Session} {s : State} (live : liveCtx s = some c) (free : freeChannel s = some k)
    (cat : Category) (cause : Reason) :
    MicOpened n k (newChannel s c.profile n cat cause) s (openMic n cat cause s) := by
  have hk := (freeChannel_spec free).1
  simp only [openMic, live, free]
  generalize newChannel s c.profile n cat cause = e
  generalize hd : (if (setChannel k (some e) s).chan.deferred = some n then none
    else (setChannel k (some e) s).chan.deferred) = deferred
  generalize ht : (setChannel k (some e) s).setChan { (setChannel k (some e) s).chan with
    order := (setChannel k (some e) s).chan.order ++ [k], deferred := deferred } = t
  have left := queueLeave_if_queued n t
  generalize (if t.queue.contains n then queueLeave n t else t) = u at left ⊢
  have reported := ((admitRecord_kept { kind := .micOpen, seat := some n, channel := some k, reason := cause } u).trans
    (announce_kept n _)).trans (shareMicOpened_kept n _)
  have table (j : Nat) : channelAt u j = channelAt (setChannel k (some e) s) j := by
    simp only [channelAt, left.table, ← ht]
    rfl
  exact
    { held := ((reported.channelAt k).trans (table k)).trans (channelAt_setChannel_self hk _ s)
      others := fun j hj => ((reported.channelAt j).trans (table j)).trans (channelAt_setChannel_ne hj _ s)
      order := by rw [reported.chan, left.order, ← ht]; rfl
      holders := by rw [reported.chan, left.holders, ← ht]; rfl
      queue := by rw [reported.queue, left.queue, ← ht]; rfl
      marks := fun _ hm => reported.marks (left.marks (by rw [← ht]; exact hm))
      mark := (shareMicOpened_kept n _).marks (mic_mem_announce n _) }

theorem MicOpened.micOpen_self {n k : Nat} {e : Channel} {s t : State} (a : MicOpened n k e s t) (seat : e.seat = n) :
    micOpen t n = true := seat ▸ micOpen_of_channelAt a.held

/-- The open of a microphone opens no other seat's. -/
theorem MicOpened.micOpen_of_closed {n k m : Nat} {e : Channel} {s t : State} (a : MicOpened n k e s t)
    (hm : micOpen s m = false) (other : e.seat ≠ m) : micOpen t m = false := by
  refine micOpen_eq_false_iff.mpr fun j f hf hs => ?_
  by_cases hj : j = k
  · rw [hj, a.held] at hf
    cases hf
    exact other hs
  · exact micOpen_eq_false_iff.mp hm j f ((a.others j hj).symm.trans hf) hs

/-- A seat that was closed is found on the channel it has been opened on. -/
theorem MicOpened.channelOf_self {n k : Nat} {e : Channel} {s t : State} (a : MicOpened n k e s t)
    (closed : micOpen s n = false) (seat : e.seat = n) : channelOf t n = some k := by
  subst seat
  refine channelOf_eq_of_unique a.held fun j f hf hs => ?_
  refine Decidable.byContradiction fun hj => ?_
  exact micOpen_eq_false_iff.mp closed j f ((a.others j hj).symm.trans hf) hs

theorem MicOpened.openCount {n k : Nat} {e : Channel} {s t : State} (a : MicOpened n k e s t)
    (free : channelAt s k = none) : openCount t = openCount s + 1 := openCount_of_held free a.held a.others

theorem MicOpened.delegateCount {n k : Nat} {e : Channel} {s t : State} (a : MicOpened n k e s t)
    (free : channelAt s k = none) (delegate : e.category = .delegate) : delegateCount t = delegateCount s + 1 :=
  delegateCount_of_held free a.held a.others delegate

/-- A chair seat's entry has no speak timer and is not suppressed (R108, R114). -/
theorem newChannel_chair (s : State) (p : Profile) (n : Nat) (cause : Reason) :
    newChannel s p n .chair cause =
      { seat := n, category := .chair, cause := cause, openedAt := s.hold.tableTime, mute := p.openMute, timer := none,
        warned := false, suppressed := false } := by
  simp [newChannel]

/-- A delegate's entry has the profile's speak timer, is warned where the limit lies within the lead, and is suppressed
under a hold in DUCK mode (R97, R108, R114). -/
theorem newChannel_delegate (s : State) (p : Profile) (n : Nat) (cause : Reason) :
    newChannel s p n .delegate cause =
      { seat := n, category := .delegate, cause := cause, openedAt := s.hold.tableTime, mute := p.openMute,
        timer := if p.speakLimit = 0 then none else
          some { remaining := p.speakLimit, lead := p.warnLead, action := p.limitAction, due := false },
        warned := decide (p.speakLimit ≠ 0 ∧ p.speakLimit ≤ p.warnLead),
        suppressed := priorityHeld s .duck } := by
  by_cases h : p.speakLimit = 0 <;> simp [newChannel, newTimer, h]

/-! ### What an answered order leaves of the floor -/

theorem withAnswer_kept (h : OrderHead) (code : Nat) (status : Status) (result : List Byte) (s : State) :
    FloorKept s (withAnswer h code status result s) := ⟨rfl, rfl, fun _ hm => hm⟩

theorem answered_kept (h : OrderHead) (code : Nat) (status : Status) (result : List Byte) (s : State) :
    FloorKept s (answered h code status result s) :=
  (withAnswer_kept h code status result s).trans (settle_kept _)

theorem answered_floorFrame (h : OrderHead) (code : Nat) (status : Status) (result : List Byte) (s : State) :
    FloorFrame s (answered h code status result s) :=
  (show FloorFrame s (withAnswer h code status result s) by simp [FloorFrame, withAnswer]).trans (settle_floorFrame _)

/-- The answer of an order stands in class 2 (R188, R199). -/
theorem answer_mem_answered (h : OrderHead) (code : Nat) (status : Status) (result : List Byte) (s : State) :
    .answer { dest := h.source, tag := h.tag, code := code, status := status, part := h.part, parts := partsOf code,
              result := (result.drop (28 * h.part)).take 28 } ∈ (answered h code status result s).sched.class2 := by
  obtain ⟨_, _, _, _, _, _, _, _, _, class2, _⟩ := settle_arbiterFrame (withAnswer h code status result s)
  exact class2.subset (by simp [withAnswer])

theorem isSeat_of_range {n : Nat} (low : 1 ≤ n) (high : n ≤ 80) : isSeat n = true := by simp [isSeat, low, high]

theorem isSeat_eq_false {n : Nat} (h : n = 0 ∨ 80 < n) : isSeat n = false := by
  simp only [isSeat, Bool.and_eq_false_iff, decide_eq_false_iff_not]
  omega

/-! ### The speak timers (R109 to R111) -/

theorem exec_tableTimeTick (s : State) : exec .tableTimeTick s = .next (tick s) := rfl

theorem exec_speakLimitExpiry (n : Nat) (s : State) :
    exec (.speakLimitExpiry n) s = .next (inMain (speakLimitReached n) s) := rfl

theorem supply_of_mainRunning {s : State} (h : mainRunning s = true) : s.supply = .run ∧ s.nrstLow = false := by
  simpa [mainRunning] using h

/-- With a LIVE first entry whose end is not reached, no session ends (R45). -/
theorem endDetection_of_before {s : State} {b : Booking} {rest : List Booking} (hb : s.hold.bookings = b :: rest)
    (h : s.hold.tableTime < b.endAt) : endDetection s = s := by
  simp [endDetection, hb, Nat.not_le.mpr h]

/-- With a LIVE first entry no session starts (R45). -/
theorem startDetection_of_live {s : State} {b : Booking} {rest : List Booking} (hb : s.hold.bookings = b :: rest)
    (live : b.live = true) : startDetection s = s := by
  simp [startDetection, hb, live]

/-- Before its warning time no session is warned (R55). -/
theorem checkWarning_of_before {s : State} {c : Session} (hc : s.ctx = some c) (h : s.hold.tableTime < c.warnAt) :
    checkWarning s = s := by
  simp [checkWarning, hc, Nat.not_le.mpr h]

theorem channelAt_tickTimers (s : State) (k : Nat) :
    channelAt (s.setChan { s.chan with table := s.chan.table.map fun x => x.map tickChannel }) k =
      (channelAt s k).map tickChannel := by
  by_cases hk : k < 8
  · simp [channelAt, hk]
  · simp [channelAt, hk]

/-- After its table the speak timers' second leaves nothing but marked lamps. -/
theorem tickTimers_arbiterFrame (s : State) :
    ArbiterFrame (s.setChan { s.chan with table := s.chan.table.map fun x => x.map tickChannel }) (tickTimers s) := by
  unfold tickTimers
  dsimp only
  generalize (channels s).filter _ = newly
  generalize s.setChan _ = t
  induction newly generalizing t with
  | nil => exact .refl t
  | cons e l ih => exact (markLamp_arbiterFrame e.seat t).trans (ih _)

/-- Settles O25: the increment reaches the speak timers with nothing else changed, and each channel's second is
`tickChannel`. -/
theorem tickRunsSpeakTimers : Obligations.TickRunsSpeakTimers := by
  intro s b rest c run hc hb live beforeEnd belowTop _ beforeWarning
  obtain ⟨supply, nrst⟩ := supply_of_mainRunning run
  have second : (countSecond s).hold.tableTime = s.hold.tableTime + 1 := by
    simp only [countSecond, State.setHold_hold, bump, Config.maxTime]
    omega
  have quiet : atIncrement (countSecond s) = tickTimers (countSecond s) := by
    have hb' : (countSecond s).hold.bookings = b :: rest := hb
    rw [atIncrement, endDetection_of_before hb' (second ▸ beforeEnd), startDetection_of_live hb' live,
      checkWarning_of_before (s := countSecond s) hc (by rwa [second])]
  have ticked := (tickTimers_arbiterFrame (countSecond s)).trans (settle_arbiterFrame _)
  have table := (FloorKept.of_arbiterFrame ticked).channelAt
  obtain ⟨⟨_, _, _, _, _, _, _, ctx, _⟩, queue, chan, share, minutes, _⟩ := ticked
  refine ⟨settle (tickTimers (countSecond s)), ?_, ctx, queue, minutes, share, by rw [chan]; rfl, fun k _ => ?_⟩
  · rw [exec_tableTimeTick, tick, supply, nrst, quiet]
    rfl
  · rw [table k, channelAt_tickTimers]
    refine congrArg (fun f => (channelAt s k).map f) (funext fun e => ?_)
    unfold tickChannel timerRuns
    cases e.timer with
    | none => rfl
    | some m => simp only [Bool.and_eq_true, decide_eq_true_eq, Bool.not_eq_true']

/-- With an empty queue an occasion for auto-open opens nobody. -/
theorem autoOpen_of_empty {s : State} (h : s.queue = []) : autoOpen s = s := by
  simp [autoOpen, h, autoOpenGo]

/-- With an empty queue a close is its steps 1 to 4 (R99). -/
theorem closeMic_closed_of_empty {n k : Nat} {s : State} (h : channelOf s n = some k) (empty : s.queue = [])
    (reason : Reason) : MicClosed n k s (closeMic n reason s) := by
  have closed := closeMicOnly_closed h reason
  simp only [closeMic, h]
  rwa [autoOpen_of_empty (closed.queue.trans empty)]

/-- A raise touches neither the share controller nor the minutes unit. -/
theorem raise_share_minutes (c : Cause) (event value : Nat) (s : State) :
    (raise c event value s).share = s.share ∧ (raise c event value s).minutes = s.minutes := by
  have notice (x : Notice) : (setNotice c.num x s).share = s.share ∧ (setNotice c.num x s).minutes = s.minutes := by
    unfold setNotice
    split <;> exact ⟨rfl, rfl⟩
  unfold raise
  dsimp only
  generalize (if (noticeAt s c.num).pending = true then _ else _ : Notice) = x
  split
  · obtain ⟨_, _, _, share, minutes, _⟩ := offerAlert_arbiterFrame (setNotice c.num x s)
    exact ⟨share.trans (notice x).1, minutes.trans (notice x).2⟩
  · exact notice x

/-- Under FLAG a due speak timer raises the notice and is no longer due (R111, log 10). -/
theorem speakLimitReached_flag {s : State} {n k : Nat} {e : Channel} {m : SpeakTimer} (hc : channelOf s n = some k)
    (he : channelAt s k = some e) (hm : e.timer = some m) (due : m.due = true) (flag : m.action = .flag) :
    speakLimitReached n s =
      raise .floor 2 n (setChannel k (some { e with timer := some { m with due := false } }) s) := by
  simp only [speakLimitReached, hc, he, hm, due, if_true]
  split
  · rename_i close
    cases flag.symm.trans close
  · rfl

/-- Under CLOSE a due speak timer closes its microphone (R111, log 10). -/
theorem speakLimitReached_close {s : State} {n k : Nat} {e : Channel} {m : SpeakTimer} (hc : channelOf s n = some k)
    (he : channelAt s k = some e) (hm : e.timer = some m) (due : m.due = true) (close : m.action = .close) :
    speakLimitReached n s = closeMic n .limit s := by
  simp only [speakLimitReached, hc, he, hm, due, close, if_true]

/-- Settles O27, by the two limit actions. -/
theorem speakLimitFlagsOrCloses : Obligations.SpeakLimitFlagsOrCloses := by
  intro s n k e m run hc he hm due
  have exec_eq : exec (.speakLimitExpiry n) s = .next (settle (speakLimitReached n s)) := by
    rw [exec_speakLimitExpiry, inMain, if_pos run]
  constructor
  · intro flag quiet
    rw [speakLimitReached_flag hc he hm due flag] at exec_eq
    have entry := channelAt_setChannel_self (lt_of_channelAt he) (some { e with timer := some { m with due := false } }) s
    generalize hw : setChannel k _ s = w at exec_eq entry
    have written : FloorFrame s w := hw ▸ setChannel_floorFrame _ _ s
    have unraised : (noticeAt w Cause.floor.num).pending = false := by rw [← hw]; exact quiet
    have notice := noticeAt_raise_self .floor 2 n w
    rw [unraised] at notice
    have raised := raise_kept .floor 2 n w
    obtain ⟨shareRaised, minutesRaised⟩ := raise_share_minutes .floor 2 n w
    have settled := settle_kept (raise .floor 2 n w)
    obtain ⟨frame, queue, chan, share, minutes, _, _, _, _, _, _, _, _, notices⟩ :=
      settle_arbiterFrame (raise .floor 2 n w)
    refine ⟨_, exec_eq, (written.trans (raise_floorFrame _ _ _ w)).trans frame, ?_, ?_, ?_, ?_, ?_, ?_⟩
    · exact (settled.channelAt k).trans ((raised.channelAt k).trans entry)
    · rw [chan, raised.chan, ← hw]
      rfl
    · exact (notices 10 (by decide)).trans notice
    · rw [minutes, minutesRaised, ← hw]
      rfl
    · rw [queue, raised.queue, ← hw]
      rfl
    · rw [share, shareRaised, ← hw]
      rfl
  · intro close empty tables
    rw [speakLimitReached_close hc he hm due close] at exec_eq
    have closed := (closeMic_closed_of_empty hc empty .limit).kept (settle_kept _)
    exact ⟨_, exec_eq, (closeMic_floorFrame n .limit s).trans (settle_floorFrame _), closed.free,
      closed.micOpen_self (seatsDistinct_of_floorTables tables) hc, closed.order, closed.mark⟩

/-! ### GRANT (R96 to R98, R104) -/

theorem exec_grant (h : OrderHead) (n force : Nat) (s : State) :
    exec (.grant h n force) s = .next (runOrder (.grant h n force) h 0x50 (grantOrder n force) s) := rfl

/-- The conditions of R96 for a chair seat. -/
theorem openAllowed_chair {s : State} {c : Session} {n : Nat} (live : liveCtx s = some c) (here : present s n = true)
    (enabled : enabledSeat s n = true) (closed : micOpen s n = false) : openAllowed s n .chair 0 = true := by
  simp [openAllowed, live, here, enabled, closed]

/-- The conditions of R96 for a delegate below the open limit. -/
theorem openAllowed_delegate {s : State} {c : Session} {n : Nat} (live : liveCtx s = some c) (here : present s n = true)
    (enabled : enabledSeat s n = true) (closed : micOpen s n = false)
    (below : delegateCount s < c.profile.openLimit) (unheld : priorityHeld s .close = false) :
    openAllowed s n .delegate 0 = true := by
  simp [openAllowed, live, here, enabled, closed, below, unheld]

/-- A GRANT whose open the STRICT reserve does not let in (R104, check 7). -/
theorem grantReply_logFull {n : Nat} {cat : Category} {s : State} (full : micRoom s false = false) :
    grantReply n (tryOpen n cat .order s) = refuse .logFull s := by
  simp [grantReply, tryOpen, full]

theorem grantReply_opened {n : Nat} {cat : Category} {s : State} (allowed : openAllowed s n cat 0 = true)
    (room : micRoom s false = true) :
    grantReply n (tryOpen n cat .order s) =
      done [channelByte (openMic n cat .order s) n] (openMic n cat .order s) := by
  simp [grantReply, tryOpen, allowed, room]

/-- What a GRANT that opens seat `n` on channel `k` with the entry `e` leaves behind it. -/
def GrantOpened (h : OrderHead) (n force : Nat) (s : State) (k : Nat) (e : Channel) : Prop :=
  ∃ t, exec (.grant h n force) s = .next t ∧ FloorFrame s t ∧ channelAt t k = some e ∧
    (∀ j, j ≠ k → channelAt t j = channelAt s j) ∧ t.chan.order = s.chan.order ++ [k] ∧
    t.chan.holders = s.chan.holders ∧ t.queue = s.queue.erase n ∧ .mic n ∈ t.sched.class1 ∧
    .answer { dest := h.source, tag := h.tag, code := 0x50, status := .done, part := h.part, parts := 1,
              result := ([byte k].drop (28 * h.part)).take 28 } ∈ t.sched.class2

/-- A GRANT that comes to the open of its seat opens it on the lowest free channel, and answers that channel. -/
theorem grant_opened {h : OrderHead} {n force k : Nat} {s : State} {c : Session} {cat : Category}
    (ready : Ready (.grant h n force) s) (live : liveCtx s = some c) (closed : micOpen s n = false)
    (free : freeChannel s = some k) (comes : grantOrder n force s = grantReply n (tryOpen n cat .order s))
    (allowed : openAllowed s n cat 0 = true) (room : micRoom s false = true) :
    GrantOpened h n force s k (newChannel s c.profile n cat .order) := by
  have opened := openMic_opened (n := n) live free cat .order
  have answer : channelByte (openMic n cat .order s) n = byte k := by
    rw [channelByte, opened.channelOf_self closed rfl]
    rfl
  rw [grantReply_opened allowed room, answer] at comes
  have kept := opened.kept (answered_kept h 0x50 .done [byte k] _)
  exact ⟨_, by rw [exec_grant, runOrder_done ready h 0x50 comes],
    (openMic_floorFrame n cat .order s).trans (answered_floorFrame _ _ _ _ _), kept.held, kept.others, kept.order,
    kept.holders, kept.queue, kept.mark, answer_mem_answered h 0x50 .done [byte k] _⟩

/-- The earliest delegate holds a delegate channel (R94). -/
theorem channelAt_of_earliestDelegate {s : State} {m : Nat} (h : earliestDelegate s = some m) :
    ∃ k f, channelAt s k = some f ∧ f.seat = m ∧ f.category = .delegate := by
  simp only [earliestDelegate, Option.map_eq_some_iff, Option.bind_eq_some_iff] at h
  obtain ⟨f, ⟨k, first, hf⟩, seat⟩ := h
  have delegate := (List.mem_filter.mp (List.mem_of_mem_head? first)).2
  simp only [hf, decide_eq_true_eq] at delegate
  exact ⟨k, f, hf, seat, delegate⟩

/-- A replacement that is taken closes the earliest delegate and then opens the seat (R98), whether the share controller
hears of the close before the open or after it (log 44). -/
theorem replaceMic_replaces {s : State} {c : Session} {m n k : Nat} (live : liveCtx s = some c)
    (earliest : earliestDelegate s = some m) (allowed : replaceAllowed s n = true) (held : channelOf s m = some k)
    (closing opening : Reason) :
    ∃ u v j e, replaceMic n closing opening s = (true, v) ∧ MicClosed m k s u ∧ channelAt u j = none ∧
      MicOpened n j e u v ∧ e.seat = n ∧ e.category = .delegate := by
  have open_after {u : State} (frame : FloorFrame s u) (closed : MicClosed m k s u) :
      ∃ j e, channelAt u j = none ∧ MicOpened n j e u (openMic n .delegate opening u) ∧ e.seat = n ∧
        e.category = .delegate := by
    obtain ⟨f, hf, _⟩ := channelAt_of_channelOf held
    obtain ⟨j, hj⟩ := freeChannel_isSome (lt_of_channelAt hf) closed.free
    exact ⟨j, _, (freeChannel_spec hj).2,
      openMic_opened ((liveCtx_of_floorFrame frame).trans live) hj .delegate opening, rfl, rfl⟩
  simp only [replaceMic, earliest, allowed, if_true]
  by_cases strict : strictMode s = true
  · have closed := closeEntry_closed held closing
    obtain ⟨j, e, free, opened, seat, delegate⟩ := open_after (closeEntry_floorFrame m closing s) closed
    exact ⟨_, _, j, e, by rw [if_pos strict], closed, free, opened.kept (shareMicClosed_kept m _), seat, delegate⟩
  · have closed := closeMicOnly_closed held closing
    obtain ⟨j, e, free, opened, seat, delegate⟩ := open_after (closeMicOnly_floorFrame m closing s) closed
    exact ⟨_, _, j, e, by rw [if_neg strict], closed, free, opened, seat, delegate⟩

/-- A forced GRANT at the open limit (R98, R104). -/
theorem grant_replaces {h : OrderHead} {n force m : Nat} {s : State} {c : Session}
    (ready : Ready (.grant h n force) s) (live : liveCtx s = some c) (closedSeat : micOpen s n = false)
    (comes : grantOrder n force s = grantReply n (replaceMic n .order .order s))
    (earliest : earliestDelegate s = some m) (allowed : replaceAllowed s n = true) (tables : FloorTables s) :
    ∃ t, exec (.grant h n force) s = .next t ∧ FloorFrame s t ∧ micOpen t n = true ∧ micOpen t m = false ∧
      delegateCount t = delegateCount s ∧ openCount t = openCount s ∧ n ∉ t.queue := by
  have distinct := seatsDistinct_of_floorTables tables
  obtain ⟨k, f, hf, rfl, delegate⟩ := channelAt_of_earliestDelegate earliest
  have held := channelOf_eq_of_distinct distinct hf
  have other : n ≠ f.seat := by
    rintro rfl
    exact Bool.false_ne_true (closedSeat.symm.trans (micOpen_of_channelAt hf))
  obtain ⟨u, v, j, e, replaced, closed, free, opened, seat, delegate'⟩ :=
    replaceMic_replaces live earliest allowed held .order .order
  have frame := replaceMic_floorFrame n .order .order s
  rw [replaced] at comes frame
  have kept := opened.kept (answered_kept h 0x50 .done [channelByte v n] _)
  refine ⟨_, by rw [exec_grant, runOrder_done ready h 0x50 comes], frame.trans (answered_floorFrame _ _ _ _ _),
    kept.micOpen_self seat, ?_, ?_, ?_, ?_⟩
  · exact kept.micOpen_of_closed (closed.micOpen_self distinct held) (seat ▸ other)
  · rw [kept.delegateCount free delegate', closed.delegateCount hf delegate]
  · rw [kept.openCount free, closed.openCount hf]
  · obtain ⟨_, nodup, _⟩ := tables
    rw [kept.queue, closed.queue]
    exact nodup.not_mem_erase

/-- R104: what a GRANT does once its seat is known to be PRESENT, enabled and closed. -/
theorem grantOrder_of_openable {s : State} {c : Session} {n force : Nat} (live : liveCtx s = some c)
    (seat : isSeat n = true) (flag : force ≤ 1) (here : present s n = true) (enabled : enabledSeat s n = true)
    (closed : micOpen s n = false) :
    grantOrder n force s =
      if chairSeat s n then grantReply n (tryOpen n .chair .order s)
      else if priorityHeld s .close then refuse .state s
      else if delegateCount s < c.profile.openLimit then grantReply n (tryOpen n .delegate .order s)
      else if force = 0 then refuse .full s
      else grantReply n (replaceMic n .order .order s) := by
  simp [grantOrder, live, seat, Nat.not_lt.mpr flag, here, enabled, closed]

/-- Settles O52, check by check as R104 orders them. -/
theorem grantOpensMicrophone : Obligations.GrantOpensMicrophone := by
  intro h n force s ready
  have refused {status : Status} (e : grantOrder n force s = refuse status s) :
      exec (.grant h n force) s = .next (answered h 0x50 status [] s) := by
    rw [exec_grant, runOrder_refused ready h 0x50 e]
  refine ⟨fun live => refused (by simp [grantOrder, live]), fun c live => ⟨fun range => refused ?_, ?_⟩⟩
  · rcases range with low | high | flag
    · simp [grantOrder, live, isSeat_eq_false (.inl low)]
    · simp [grantOrder, live, isSeat_eq_false (.inr high)]
    · simp [grantOrder, live, flag]
  · intro low high flag
    have seat := isSeat_of_range low high
    refine ⟨fun absent => refused ?_, fun here barred => refused ?_, fun here enabled closed => ?_⟩
    · simp [grantOrder, live, seat, Nat.not_lt.mpr flag, absent]
    · rcases barred with barred | barred <;>
        simp [grantOrder, live, seat, Nat.not_lt.mpr flag, here, barred]
    · have openable := grantOrder_of_openable live seat flag here enabled closed
      intro opened
      refine ⟨fun chair => ?_, fun delegate => ?_⟩
      · have comes : grantOrder n force s = grantReply n (tryOpen n .chair .order s) := by
          rw [openable, if_pos chair]
        refine ⟨fun full => refused (comes.trans (grantReply_logFull full)), fun k room free => ?_⟩
        rw [← newChannel_chair s c.profile n .order]
        exact grant_opened ready live closed free comes (openAllowed_chair live here enabled closed) room
      · rw [if_neg (by simp [delegate])] at openable
        refine ⟨fun held => refused ?_, fun unheld limit unforced => refused ?_, fun unheld below => ?_,
          fun m unheld limit forced earliest allowed tables => ?_⟩
        · rw [openable, if_pos held]
        · rw [openable, if_neg (by simp [unheld]), if_neg (Nat.not_lt.mpr limit), if_pos unforced]
        · have comes : grantOrder n force s = grantReply n (tryOpen n .delegate .order s) := by
            rw [openable, if_neg (by simp [unheld]), if_pos below]
          refine ⟨fun full => refused (comes.trans (grantReply_logFull full)), fun k room free => ?_⟩
          rw [← newChannel_delegate s c.profile n .order]
          exact grant_opened ready live closed free comes
            (openAllowed_delegate live here enabled closed below unheld) room
        · have comes : grantOrder n force s = grantReply n (replaceMic n .order .order s) := by
            rw [openable, if_neg (by simp [unheld]), if_neg (Nat.not_lt.mpr limit), if_neg (by omega)]
          exact grant_replaces ready live closed comes earliest allowed tables

/-! ### CLOSE and CLOSE ALL (R99, R101 to R106) -/

theorem exec_close (h : OrderHead) (n : Nat) (s : State) :
    exec (.close h n) s = .next (runOrder (.close h n) h 0x51 (closeOrder n) s) := rfl

theorem exec_closeAll (h : OrderHead) (n : Nat) (s : State) :
    exec (.closeAll h n) s = .next (runOrder (.closeAll h n) h 0x52 (closeAllOrder n) s) := rfl

theorem sessionLive_of_liveCtx {s : State} (h : liveCtx s ≠ none) : sessionLive s = true :=
  Option.isSome_iff_ne_none.mpr h

/-- R105: a CLOSE that is taken. -/
theorem closeOrder_taken {s : State} {n k : Nat} {e : Channel} (live : liveCtx s ≠ none) (seat : isSeat n = true)
    (held : channelOf s n = some k) (he : channelAt s k = some e) :
    closeOrder n s = done (closeBytes s k e) (closeMic n .order s) := by
  simp [closeOrder, sessionLive_of_liveCtx live, seat, held, he]

/-- Auto-open with one seat queued that may open: it is opened as a delegate, and the pass ends with the queue (R102). -/
theorem autoOpen_opens_only {s : State} {m : Nat} (mode : autoMode s = true) (only : s.queue = [m])
    (head : headAllowed s m = true) (room : micRoom s false = true) : autoOpen s = openMic m .delegate .queue s := by
  simp [autoOpen, mode, only, autoOpenGo, head, room]

/-- With one delegate fewer than stood at or below the limit, a queued seat that may speak is let in at a head (R102). -/
theorem headAllowed_after_close {s u : State} {c : Session} {n k m : Nat} {e : Channel} (frame : FloorFrame s u)
    (closed : MicClosed n k s u) (he : channelAt s k = some e) (delegate : e.category = .delegate)
    (live : liveCtx s = some c) (here : present s m = true) (enabled : enabledSeat s m = true)
    (common : chairSeat s m = false) (limit : delegateCount s ≤ c.profile.openLimit)
    (unheld : priorityHeld s .close = false) (waits : micOpen s m = false) : headAllowed u m = true := by
  have below : delegateCount u < c.profile.openLimit := by
    have := closed.delegateCount he delegate
    omega
  have allowed := openAllowed_delegate ((liveCtx_of_floorFrame frame).trans live)
    ((present_of_floorFrame frame m).trans here) ((enabledSeat_of_floorFrame frame m).trans enabled)
    (closed.micOpen_of_closed waits) below ((closed.priorityHeld .close).trans unheld)
  simp [headAllowed, allowed, chairSeat_of_floorFrame frame, common]

/-- R106: a CLOSE ALL that is taken with no seat queued closes the seats that it names, and nothing follows. -/
theorem closeAllTake_of_empty {s t : State} {chairs : Bool}
    (ht : (closeAllSeats s chairs).foldl (fun u n => closeMicOnly n .order u) s = t) (empty : t.queue = []) :
    closeAllTake chairs s = done [byte (closeAllSeats s chairs).length] t := by
  simp only [closeAllTake, ht, autoOpen_of_empty empty, ite_self]

/-- The channels of the seats in `l` are free, and nothing else of the floor but the opening order is different. -/
structure SeatsClosed (l : List Nat) (s t : State) : Prop where
  table : ∀ k, channelAt t k = (channelAt s k).filter fun e => decide (e.seat ∉ l)
  holders : t.chan.holders = s.chan.holders
  queue : t.queue = s.queue

theorem closeMicOnly_seatClosed {s : State} (hd : SeatsDistinct s) (n : Nat) (reason : Reason) :
    SeatsClosed [n] s (closeMicOnly n reason s) ∧ SeatsDistinct (closeMicOnly n reason s) := by
  cases held : channelOf s n with
  | none =>
      have closed : micOpen s n = false := by simp [micOpen, held]
      simp only [closeMicOnly, held]
      refine ⟨⟨fun k => ?_, rfl, rfl⟩, hd⟩
      cases he : channelAt s k with
      | none => rfl
      | some e => simp [Option.filter, micOpen_eq_false_iff.mp closed k e he]
  | some k =>
      obtain ⟨e, he, seat⟩ := channelAt_of_channelOf held
      have freed := closeMicOnly_closed held reason
      refine ⟨⟨fun j => ?_, freed.holders, freed.queue⟩, freed.seatsDistinct hd⟩
      by_cases hj : j = k
      · rw [hj, freed.free, he]
        simp [Option.filter, seat]
      · rw [freed.others j hj]
        cases hf : channelAt s j with
        | none => rfl
        | some f =>
            have other : f.seat ≠ n := fun hs => hj (hd j k f e hf he (hs.trans seat.symm))
            simp [Option.filter, other]

theorem foldl_closeMicOnly_seatsClosed (reason : Reason) (l : List Nat) {s : State} (hd : SeatsDistinct s) :
    SeatsClosed l s (l.foldl (fun u n => closeMicOnly n reason u) s) := by
  induction l generalizing s with
  | nil => exact ⟨fun k => by cases he : channelAt s k <;> simp [he, Option.filter], rfl, rfl⟩
  | cons n l ih =>
      obtain ⟨first, distinct⟩ := closeMicOnly_seatClosed hd n reason
      have rest := ih distinct
      refine ⟨fun k => ?_, rest.holders.trans first.holders, rest.queue.trans first.queue⟩
      rw [List.foldl_cons, rest.table k, first.table k, Option.filter_filter]
      congr 1
      funext e
      simp

/-- Which held seats CLOSE ALL closes (R106). -/
theorem mem_closeAllSeats {s : State} (tables : FloorTables s) {k : Nat} {e : Channel} (he : channelAt s k = some e)
    (chairs : Bool) : e.seat ∈ closeAllSeats s chairs ↔ (chairs || decide (e.category = .delegate)) = true := by
  have distinct := seatsDistinct_of_floorTables tables
  obtain ⟨_, _, _, _, _, occupied, _⟩ := tables
  have listed : k ∈ s.chan.order := (occupied k (lt_of_channelAt he)).mpr (by simp [he])
  simp only [closeAllSeats, List.mem_map, List.mem_filter, List.mem_filterMap]
  constructor
  · rintro ⟨f, ⟨⟨j, _, hf⟩, named⟩, seat⟩
    rw [distinct j k f e hf he seat, he] at hf
    cases hf
    exact named
  · intro named
    exact ⟨e, ⟨⟨k, listed, he⟩, named⟩, rfl⟩

/-- The opening order lists the held channels, so that it gives the entries of the table. -/
theorem order_entries_perm {s : State} (tables : FloorTables s) :
    (s.chan.order.filterMap (channelAt s)).Perm (channels s) := by
  obtain ⟨_, _, _, nodup, bound, occupied, _⟩ := tables
  have listed : s.chan.order.Perm ((List.range 8).filter fun k => (channelAt s k).isSome) := by
    refine (List.perm_ext_iff_of_nodup nodup (List.nodup_range.filter _)).mpr fun k => ?_
    simp only [List.mem_filter, List.mem_range]
    exact ⟨fun hk => ⟨bound k hk, (occupied k (bound k hk)).mp hk⟩, fun hk => (occupied k hk.1).mpr hk.2⟩
  have held : ((List.range 8).filter fun k => (channelAt s k).isSome).filterMap (channelAt s) =
      (List.range 8).filterMap (channelAt s) := by
    rw [List.filterMap_filter]
    refine filterMap_congr_of_mem fun k _ => ?_
    cases channelAt s k <;> rfl
  rw [channels_eq_filterMap, ← held]
  exact listed.filterMap _

theorem length_closeAllSeats {s : State} (tables : FloorTables s) (chairs : Bool) :
    (closeAllSeats s chairs).length =
      ((channels s).filter fun e => chairs || decide (e.category = .delegate)).length := by
  rw [closeAllSeats, List.length_map]
  exact ((order_entries_perm tables).filter _).length_eq

theorem flagOf_of_le_one {n : Nat} (h : n ≤ 1) : flagOf n = some (decide (n = 1)) := by
  rcases Nat.le_one_iff_eq_zero_or_eq_one.mp h with rfl | rfl <;> rfl

theorem flagOf_of_one_lt {n : Nat} (h : 1 < n) : flagOf n = none := by
  simp [flagOf, show n ≠ 0 by omega, show n ≠ 1 by omega]

/-- CLOSE with no seat queued (R105). -/
theorem close_frees {h : OrderHead} {n k : Nat} {s : State} {e : Channel} (ready : Ready (.close h n) s)
    (live : liveCtx s ≠ none) (seat : isSeat n = true) (held : channelOf s n = some k) (he : channelAt s k = some e)
    (empty : s.queue = []) :
    ∃ t, exec (.close h n) s = .next t ∧ FloorFrame s t ∧ MicClosed n k s t ∧
      .answer { dest := h.source, tag := h.tag, code := 0x51, status := .done, part := h.part, parts := 1,
                result := ((closeBytes s k e).drop (28 * h.part)).take 28 } ∈ t.sched.class2 :=
  ⟨_, by rw [exec_close, runOrder_done ready h 0x51 (closeOrder_taken live seat held he)],
    (closeMic_floorFrame n .order s).trans (answered_floorFrame _ _ _ _ _),
    (closeMic_closed_of_empty held empty .order).kept (answered_kept _ _ _ _ _),
    answer_mem_answered h 0x51 .done (closeBytes s k e) _⟩

/-- CLOSE of a delegate with one seat queued, in QUEUE mode under LOOSE minutes (R101 to R103). -/
theorem close_opens_queued {h : OrderHead} {n k m : Nat} {s : State} {e : Channel} {c : Session}
    (ready : Ready (.close h n) s) (seat : isSeat n = true) (held : channelOf s n = some k)
    (he : channelAt s k = some e) (delegate : e.category = .delegate) (live : liveCtx s = some c)
    (queueMode : c.profile.floorMode = .queue) (loose : c.mode = .loose) (only : s.queue = [m])
    (here : present s m = true) (enabled : enabledSeat s m = true) (common : chairSeat s m = false)
    (limit : delegateCount s ≤ c.profile.openLimit) (unheld : priorityHeld s .close = false) (tables : FloorTables s) :
    ∃ t, exec (.close h n) s = .next t ∧ FloorFrame s t ∧ micOpen t n = false ∧ micOpen t m = true ∧
      t.queue = [] ∧ delegateCount t = delegateCount s ∧ .mic n ∈ t.sched.class1 ∧ .mic m ∈ t.sched.class1 := by
  have distinct := seatsDistinct_of_floorTables tables
  obtain ⟨_, _, queued, _⟩ := tables
  have waits : micOpen s m = false := (queued m (by simp [only])).2
  have other : m ≠ n := by
    rintro rfl
    simp [micOpen, held] at waits
  have closed := closeMicOnly_closed held .order
  have frame := closeMicOnly_floorFrame n .order s
  generalize hu : closeMicOnly n .order s = u at closed frame
  have liveAfter := (liveCtx_of_floorFrame frame).trans live
  obtain ⟨j, free⟩ := freeChannel_isSome (lt_of_channelAt he) closed.free
  have head := headAllowed_after_close frame closed he delegate live here enabled common limit unheld waits
  have room : micRoom u false = true := by
    simp [micRoom, strictMode, ctx_of_liveCtx liveAfter, loose]
  have mode : autoMode u = true := by simp [autoMode, liveAfter, queueMode]
  have after : closeMic n .order s = openMic m .delegate .queue u := by
    simp only [closeMic, held, hu]
    exact autoOpen_opens_only mode (closed.queue.trans only) head room
  have opened := (openMic_opened (n := m) liveAfter free .delegate .queue).kept
    (answered_kept h 0x51 .done (closeBytes s k e) _)
  rw [← after] at opened
  refine ⟨_, by rw [exec_close, runOrder_done ready h 0x51 (closeOrder_taken (by simp [live]) seat held he)],
    (closeMic_floorFrame n .order s).trans (answered_floorFrame _ _ _ _ _),
    opened.micOpen_of_closed (closed.micOpen_self distinct held) other, opened.micOpen_self rfl, ?_, ?_,
    opened.marks closed.mark, opened.mark⟩
  · rw [opened.queue, closed.queue, only, List.erase_cons_head]
  · rw [opened.delegateCount (freeChannel_spec free).2 rfl, closed.delegateCount he delegate]

/-- CLOSE ALL with no seat queued (R106). -/
theorem closeAll_frees {h : OrderHead} {n : Nat} {s : State} (ready : Ready (.closeAll h n) s)
    (live : liveCtx s ≠ none) (flag : n ≤ 1) (empty : s.queue = []) (tables : FloorTables s) :
    ∃ t, exec (.closeAll h n) s = .next t ∧ FloorFrame s t ∧
      (∀ k < 8, channelAt t k = (channelAt s k).filter fun e => decide (n = 0) && decide (e.category = .chair)) ∧
      t.chan.holders = s.chan.holders ∧ t.queue = [] ∧
      .answer { dest := h.source, tag := h.tag, code := 0x52, status := .done, part := h.part, parts := 1,
                result := ([byte ((channels s).filter fun e =>
                  decide (n = 1) || decide (e.category = .delegate)).length].drop (28 * h.part)).take 28 }
        ∈ t.sched.class2 := by
  have closed := foldl_closeMicOnly_seatsClosed .order (closeAllSeats s (decide (n = 1)))
    (seatsDistinct_of_floorTables tables)
  have frame : FloorFrame s ((closeAllSeats s (decide (n = 1))).foldl (fun u n => closeMicOnly n .order u) s) :=
    FloorFrame.foldl (fun u m => closeMicOnly_floorFrame m .order u) _ s
  generalize ht : (closeAllSeats s (decide (n = 1))).foldl (fun u n => closeMicOnly n .order u) s = t at closed frame
  have taken : closeAllOrder n s =
      done [byte ((channels s).filter fun e => decide (n = 1) || decide (e.category = .delegate)).length] t := by
    rw [← length_closeAllSeats tables, ← closeAllTake_of_empty ht (closed.queue.trans empty)]
    simp [closeAllOrder, sessionLive_of_liveCtx live, flagOf_of_le_one flag]
  generalize [byte ((channels s).filter fun e => decide (n = 1) || decide (e.category = .delegate)).length] = result
    at taken ⊢
  have kept := answered_kept h 0x52 .done result t
  refine ⟨_, by rw [exec_closeAll, runOrder_done ready h 0x52 taken], frame.trans (answered_floorFrame _ _ _ _ _),
    fun k _ => ?_, by rw [kept.chan, closed.holders], by rw [kept.queue, closed.queue, empty],
    answer_mem_answered h 0x52 .done result t⟩
  rw [kept.channelAt k, closed.table k]
  cases he : channelAt s k with
  | none => rfl
  | some e =>
      have stays : decide (e.seat ∉ closeAllSeats s (decide (n = 1))) =
          (decide (n = 0) && decide (e.category = .chair)) := by
        rw [Bool.eq_iff_iff, decide_eq_true_iff, mem_closeAllSeats tables he]
        have zero_iff : n = 0 ↔ n ≠ 1 := by omega
        cases e.category <;> simp [zero_iff]
      simp only [Option.filter, stays]

/-- Settles O53, order by order and check by check. -/
theorem closeOrdersFreeChannels : Obligations.CloseOrdersFreeChannels := by
  intro h n s
  constructor
  · intro ready
    have refused {status : Status} (e : closeOrder n s = refuse status s) :
        exec (.close h n) s = .next (answered h 0x51 status [] s) := by
      rw [exec_close, runOrder_refused ready h 0x51 e]
    refine ⟨fun live => refused (by simp [closeOrder, sessionLive, live]), fun live range => refused ?_,
      fun live low high => ?_⟩
    · simp [closeOrder, sessionLive_of_liveCtx live, isSeat_eq_false range]
    · have seat := isSeat_of_range low high
      refine ⟨fun closed => refused ?_, fun k e held he empty tables => ?_,
        fun k e c m held he delegate live' queueMode loose only here enabled common limit unheld tables =>
          close_opens_queued ready seat held he delegate live' queueMode loose only here enabled common limit unheld
            tables⟩
      · simp [closeOrder, sessionLive_of_liveCtx live, seat, channelOf_eq_none.mpr closed]
      · obtain ⟨t, run, frame, closed, answer⟩ := close_frees ready live seat held he empty
        exact ⟨t, run, frame, closed.free, closed.micOpen_self (seatsDistinct_of_floorTables tables) held,
          closed.others, closed.order, closed.holders, closed.queue.trans empty, closed.mark, answer⟩
  · intro ready
    have refused {status : Status} (e : closeAllOrder n s = refuse status s) :
        exec (.closeAll h n) s = .next (answered h 0x52 status [] s) := by
      rw [exec_closeAll, runOrder_refused ready h 0x52 e]
    refine ⟨fun live => refused (by simp [closeAllOrder, sessionLive, live]), fun live range => refused ?_,
      fun live flag empty tables => closeAll_frees ready live flag empty tables⟩
    simp [closeAllOrder, sessionLive_of_liveCtx live, flagOf_of_one_lt range]

end Sys2Proof.MicrophoneChannels
end

section
/-! PROOFS. The mix engine and the sample clock (chapter 6): the rounded product of a sample and a gain code, the orders
SET GAIN and READ MIX, and the loss and the recovery of the external clock. -/

namespace Sys2Proof.MixEngine

open Sys2Proof Sys2Proof.Machine

/-! ### The product of a sample and a gain code (R123, R128)

`nearest` finds the bits of its answer from the top. With `b` bits still open its accumulator is reached and the number
2 ^ b above it is not; with no bit open the two are neighbours, which is what rounding asks for. -/

/-- `r` is reached and its successor is not: `r` is y × 10^(−3k/40) rounded, halves going up. -/
def RoundsTo (k y r : Nat) : Prop := reaches k y r = true ∧ reaches k y (r + 1) = false

theorem reaches_iff {k y r : Nat} : reaches k y r = true ↔ (2 * r - 1) ^ 40 * 10 ^ (3 * k) ≤ (2 * y) ^ 40 :=
  decide_eq_true_iff

theorem not_reaches_iff {k y r : Nat} : reaches k y r = false ↔ (2 * y) ^ 40 < (2 * r - 1) ^ 40 * 10 ^ (3 * k) := by
  rw [reaches, decide_eq_false_iff_not, Nat.not_le]

theorem roundsTo_iff {k y r : Nat} : RoundsTo k y r ↔
    (2 * r - 1) ^ 40 * 10 ^ (3 * k) ≤ (2 * y) ^ 40 ∧ (2 * y) ^ 40 < (2 * r + 1) ^ 40 * 10 ^ (3 * k) := by
  have succ : 2 * (r + 1) - 1 = 2 * r + 1 := by omega
  rw [RoundsTo, reaches_iff, not_reaches_iff, succ]

theorem reaches_zero (k y : Nat) : reaches k y 0 = true := by simp [reaches_iff]

/-- A factor of at most 1 does not bring a magnitude above itself. -/
theorem not_reaches_of_lt {k y r : Nat} (h : y < r) : reaches k y r = false := by
  rw [not_reaches_iff]
  calc (2 * y) ^ 40 < (2 * r - 1) ^ 40 := Nat.pow_lt_pow_left (by omega) (by decide)
    _ ≤ (2 * r - 1) ^ 40 * 10 ^ (3 * k) := Nat.le_mul_of_pos_right _ (Nat.pow_pos (by decide))

/-- The bits below `b` settle the answer between an accumulator that is reached and one 2 ^ b above it that is not. -/
theorem nearestGo_roundsTo {k y b acc : Nat} (low : reaches k y acc = true)
    (high : reaches k y (acc + 2 ^ b) = false) : RoundsTo k y (nearestGo k y b acc) := by
  induction b generalizing acc with
  | zero => exact ⟨low, high⟩
  | succ b ih =>
      rw [nearestGo]
      split
      case isTrue bit =>
          refine ih bit ?_
          rwa [Nat.add_assoc, ← Nat.two_mul, ← Nat.pow_succ']
      case isFalse bit => exact ih low (eq_false_of_ne_true bit)

theorem nearest_roundsTo (k : Nat) {y : Nat} (h : y < 2 ^ 24) : RoundsTo k y (nearest k y) :=
  nearestGo_roundsTo (reaches_zero k y) (not_reaches_of_lt (by rwa [Nat.zero_add]))

/-- The factor of code 40 is 1. -/
theorem nearest_zero {y : Nat} (h : y < 2 ^ 24) : nearest 0 y = y := by
  obtain ⟨low, high⟩ := nearest_roundsTo 0 h
  generalize nearest 0 y = r at low high
  refine Nat.le_antisymm (Nat.le_of_not_lt fun above => ?_) (Nat.le_of_not_lt fun below => ?_)
  · rw [not_reaches_of_lt above] at low
    cases low
  · rw [not_reaches_iff, Nat.mul_zero, Nat.pow_zero, Nat.mul_one] at high
    have := (Nat.pow_lt_pow_iff_left (by decide)).mp high
    omega

theorem gainProduct_mute (x : Int) : gainProduct 0 x = 0 := if_pos rfl

theorem gainProduct_of_nonneg {code : Nat} {x : Int} (h : 1 ≤ code) (hx : 0 ≤ x) :
    gainProduct code x = nearest (40 - code) x.natAbs := by
  rw [gainProduct, if_neg (by omega), if_pos hx]

theorem gainProduct_of_neg {code : Nat} {x : Int} (h : 1 ≤ code) (hx : x < 0) :
    gainProduct code x = -(nearest (40 - code) x.natAbs : Int) := by
  rw [gainProduct, if_neg (by omega), if_neg (by omega)]

theorem natAbs_gainProduct {code : Nat} (h : 1 ≤ code) (x : Int) :
    (gainProduct code x).natAbs = nearest (40 - code) x.natAbs := by
  rcases Int.lt_or_le x 0 with neg | nonneg
  · rw [gainProduct_of_neg h neg, Int.natAbs_neg, Int.natAbs_natCast]
  · rw [gainProduct_of_nonneg h nonneg, Int.natAbs_natCast]

/-- Settles O38. -/
theorem gainProductIsNearest : Obligations.GainProductIsNearest := by
  refine ⟨gainProduct_mute, fun code x audible _ range => ?_⟩
  have bits : x.natAbs < 2 ^ 24 := Nat.lt_of_le_of_lt range (by decide)
  obtain ⟨low, high⟩ := roundsTo_iff.mp (nearest_roundsTo (40 - code) bits)
  rw [← natAbs_gainProduct audible x] at low high
  refine ⟨low, high, fun nonneg => ?_, fun neg => ?_, fun unity => ?_⟩
  · rw [gainProduct_of_nonneg audible nonneg]
    exact Int.natCast_nonneg _
  · rw [gainProduct_of_neg audible neg]
    exact Int.neg_nonpos_of_nonneg (Int.natCast_nonneg _)
  · subst unity
    have whole : nearest (40 - 40) x.natAbs = x.natAbs := nearest_zero bits
    rcases Int.lt_or_le x 0 with neg | nonneg
    · rw [gainProduct_of_neg audible neg, whole]
      omega
    · rw [gainProduct_of_nonneg audible nonneg, whole]
      omega

/-! ### SET GAIN and READ MIX (R124, R129) -/

theorem exec_setGain (h : OrderHead) (bus source code : Nat) (s : State) : exec (.setGain h bus source code) s =
    .next (runOrder (.setGain h bus source code) h 0x60 (setGainOrder bus source code) s) := rfl

theorem exec_readMix (h : OrderHead) (bus : Nat) (s : State) :
    exec (.readMix h bus) s = .next (runOrder (.readMix h bus) h 0x61 (readMixOrder bus) s) := rfl

theorem setGainOrder_inRange {bus source code : Nat} (range : bus ≤ 3 ∧ source ≤ 9 ∧ code ≤ 40) (s : State) :
    setGainOrder bus source code s =
      done [] (s.setMix { s.mix with codes := s.mix.codes.setIfInBounds (bus * 10 + source) code }) :=
  if_neg (by omega)

theorem setGainOrder_outOfRange {bus source code : Nat} (range : ¬(bus ≤ 3 ∧ source ≤ 9 ∧ code ≤ 40))
    (s : State) : setGainOrder bus source code s = refuse .range s := if_pos (by omega)

theorem readMixOrder_inRange {bus : Nat} (range : bus ≤ 3) (s : State) : readMixOrder bus s =
    done (mixBytes s bus) (s.setMix { s.mix with clips := s.mix.clips.setIfInBounds bus 0 }) := if_neg (by omega)

theorem readMixOrder_outOfRange {bus : Nat} (range : ¬bus ≤ 3) (s : State) :
    readMixOrder bus s = refuse .range s := if_pos (by omega)

/-- Settles O37, each order in range and out of it. -/
theorem mixTableOrders : Obligations.MixTableOrders := by
  refine fun h bus source code s => ⟨fun ready => ?_, fun ready => ?_⟩
  · rw [exec_setGain]
    split
    case isTrue range => rw [runOrder_done ready h 0x60 (setGainOrder_inRange range s)]; rfl
    case isFalse range => rw [runOrder_refused ready h 0x60 (setGainOrder_outOfRange range s)]
  · rw [exec_readMix]
    split
    case isTrue range => rw [runOrder_done ready h 0x61 (readMixOrder_inRange range s)]; rfl
    case isFalse range => rw [runOrder_refused ready h 0x61 (readMixOrder_outOfRange range s)]

/-! ### The sample clock (R130 to R132) -/

theorem exec_externalPresent {s : State} (run : mainRunning s = true) :
    exec .externalPresent s = .next (settle (s.setMix { s.mix with present := true })) :=
  congrArg _ (if_pos run)

theorem exec_externalLoss {s : State} (run : mainRunning s = true) :
    exec .externalLoss s = .next (settle (externalLost s)) := congrArg _ (if_pos run)

theorem externalLost_unused {s : State} (inUse : s.mix.inUse = .internal) :
    externalLost s = s.setMix { s.mix with present := false } := by
  simp only [externalLost, inUse]

theorem externalLost_used {s : State} (inUse : s.mix.inUse = .external) : externalLost s =
    raise .clock 1 0 (s.setMix { s.mix with inUse := .internal, fault := true, present := false }) := by
  simp only [externalLost, inUse]

theorem exec_clearClockFault (h : OrderHead) (s : State) :
    exec (.clearClockFault h) s = .next (runOrder (.clearClockFault h) h 0x97 clearClockFaultOrder s) := rfl

theorem clearClockFaultOrder_clear {s : State} (fault : s.mix.fault = false) :
    clearClockFaultOrder s = done [] s := by
  cases selection : s.mix.selection <;> simp only [clearClockFaultOrder, selection, fault]

theorem clearClockFaultOrder_internal {s : State} (fault : s.mix.fault = true)
    (selection : s.mix.selection = .internal) : clearClockFaultOrder s = done [] (s.setMix { s.mix with fault := false }) := by
  simp only [clearClockFaultOrder, selection, fault]

theorem clearClockFaultOrder_absent {s : State} (fault : s.mix.fault = true) (selection : s.mix.selection = .external)
    (absent : s.mix.present = false) : clearClockFaultOrder s = refuse .state s := by
  simp [clearClockFaultOrder, selection, fault, absent]

theorem clearClockFaultOrder_present {s : State} (fault : s.mix.fault = true) (selection : s.mix.selection = .external)
    (here : s.mix.present = true) : clearClockFaultOrder s =
      done [] (raise .clock 2 0 (s.setMix { s.mix with inUse := .external, fault := false })) := by
  simp [clearClockFaultOrder, selection, fault, here]

/-- From `s` to `t` the mix engine has changed to `m` and the CLOCK cause is pending with `event`; the other blocks that
the floor's work leaves alone stand. -/
structure ClockNoticed (event : Nat) (m : Mix) (s t : State) : Prop where
  frame : FloorFrame (s.setMix m) t
  pending : (noticeAt t 4).pending = true
  event : (noticeAt t 4).event = event

theorem raise_clock_noticed (event : Nat) (m : Mix) (s : State) :
    ClockNoticed event m s (raise .clock event 0 (s.setMix m)) := by
  have entry := noticeAt_raise_self .clock event 0 (s.setMix m)
  rw [Cause.num] at entry
  exact ⟨raise_floorFrame _ _ _ _, by rw [entry], by rw [entry]⟩

theorem noticeAt_settle {n : Nat} (h : n ≠ 11) (s : State) : noticeAt (settle s) n = noticeAt s n := by
  obtain ⟨_, _, _, _, _, _, _, _, _, _, _, _, _, notices⟩ := settle_arbiterFrame s
  exact notices n h

theorem noticeAt_answered {n : Nat} (hn : n ≠ 11) (h : OrderHead) (code : Nat) (status : Status) (result : List Byte)
    (s : State) : noticeAt (answered h code status result s) n = noticeAt s n :=
  noticeAt_settle hn (withAnswer h code status result s)

theorem ClockNoticed.kept {event : Nat} {m : Mix} {s t u : State} (a : ClockNoticed event m s t)
    (frame : FloorFrame t u) (notice : noticeAt u 4 = noticeAt t 4) : ClockNoticed event m s u :=
  ⟨a.frame.trans frame, notice ▸ a.pending, notice ▸ a.event⟩

theorem ClockNoticed.settle {event : Nat} {m : Mix} {s t : State} (a : ClockNoticed event m s t) :
    ClockNoticed event m s (settle t) := a.kept (settle_floorFrame t) (noticeAt_settle (by decide) t)

theorem ClockNoticed.answered {event : Nat} {m : Mix} {s t : State} (a : ClockNoticed event m s t) (h : OrderHead)
    (code : Nat) (status : Status) (result : List Byte) : ClockNoticed event m s (answered h code status result t) :=
  a.kept (MicrophoneChannels.answered_floorFrame h code status result t)
    (noticeAt_answered (by decide) h code status result t)

theorem ClockNoticed.blocks {event : Nat} {m : Mix} {s t : State} (a : ClockNoticed event m s t) :
    t.mix = m ∧ t.ring = s.ring ∧ t.ctx = s.ctx ∧ t.hold = s.hold := by
  obtain ⟨_, _, _, hold, ring, _, _, ctx, mix, _⟩ := a.frame
  exact ⟨mix, ring, ctx, hold⟩

/-- R131 with the external clock in use. -/
theorem externalLoss_falls_back {s : State} (run : mainRunning s = true) (inUse : s.mix.inUse = .external) :
    ∃ t, exec .externalLoss s = .next t ∧
      ClockNoticed 1 { s.mix with inUse := .internal, fault := true, present := false } s t :=
  ⟨_, by rw [exec_externalLoss run, externalLost_used inUse], (raise_clock_noticed _ _ s).settle⟩

/-- R132 with EXTERNAL selected and the clock back. -/
theorem clearClockFault_recovers {s : State} {h : OrderHead} (ready : Ready (.clearClockFault h) s)
    (fault : s.mix.fault = true) (selection : s.mix.selection = .external) (here : s.mix.present = true) :
    ∃ t, exec (.clearClockFault h) s = .next t ∧
      ClockNoticed 2 { s.mix with inUse := .external, fault := false } s t :=
  ⟨_, by rw [exec_clearClockFault, runOrder_done ready h 0x97 (clearClockFaultOrder_present fault selection here)],
    (raise_clock_noticed _ _ s).answered h 0x97 .done []⟩

/-- Settles O29, event by event and row by row of R132. -/
theorem sampleClockFallsBackAndRecovers : Obligations.SampleClockFallsBackAndRecovers := by
  refine fun s h run => ⟨exec_externalPresent run, fun inUse => ?_, fun inUse => ?_, fun ready =>
    ⟨fun clear => ?_, fun fault selection => ?_, fun fault selection absent => ?_, fun fault selection here => ?_⟩⟩
  · rw [exec_externalLoss run, externalLost_unused inUse]
    rfl
  · obtain ⟨t, ran, noticed⟩ := externalLoss_falls_back run inUse
    obtain ⟨mix, ring, ctx, hold⟩ := noticed.blocks
    exact ⟨t, ran, mix, noticed.pending, noticed.event, ring, ctx, hold⟩
  · rw [exec_clearClockFault, runOrder_done ready h 0x97 (clearClockFaultOrder_clear clear)]
  · rw [exec_clearClockFault, runOrder_done ready h 0x97 (clearClockFaultOrder_internal fault selection)]
    rfl
  · rw [exec_clearClockFault, runOrder_refused ready h 0x97 (clearClockFaultOrder_absent fault selection absent)]
  · obtain ⟨t, ran, noticed⟩ := clearClockFault_recovers ready fault selection here
    obtain ⟨mix, ring, ctx, hold⟩ := noticed.blocks
    exact ⟨t, ran, mix, noticed.pending, noticed.event, ring, hold, ctx⟩

end Sys2Proof.MixEngine
end

section
/-! PROOFS. The content share (chapter 7): the end of a share, by the grace timer or by order, and the orders SHARE GRANT,
SHARE END and SHARE CLEAR WAITING. What leaves the lane alone comes first, then the record of a share's end, an end and a
grant of the lane; the two statements are settled from them. -/

namespace Sys2Proof.ContentShare

open Sys2Proof Sys2Proof.Machine Sys2Proof.MicrophoneChannels

/-! ### What leaves the lane alone -/

/-- The share controller stands, and with it the blocks outside the floor, the channels, the request queue and the marks
that wait. -/
structure LaneKept (s t : State) : Prop where
  frame : FloorFrame s t
  floor : FloorKept s t
  share : t.share = s.share

theorem LaneKept.trans {s t u : State} (a : LaneKept s t) (b : LaneKept t u) : LaneKept s u :=
  ⟨a.frame.trans b.frame, a.floor.trans b.floor, b.share.trans a.share⟩

theorem LaneKept.of_arbiterFrame {s t : State} (a : ArbiterFrame s t) : LaneKept s t := by
  have floor := FloorKept.of_arbiterFrame a
  obtain ⟨frame, _, _, share, _⟩ := a
  exact ⟨frame, floor, share⟩

theorem settle_laneKept (s : State) : LaneKept s (settle s) := .of_arbiterFrame (settle_arbiterFrame s)

theorem answered_laneKept (h : OrderHead) (code : Nat) (status : Status) (result : List Byte) (s : State) :
    LaneKept s (answered h code status result s) := by
  obtain ⟨_, _, _, _, _, _, _, _, share, _⟩ := answered_fields h code status result s
  exact ⟨answered_floorFrame h code status result s, answered_kept h code status result s, share⟩

theorem offerMark_share_minutes (m : Mark) (s : State) :
    (offerMark m s).share = s.share ∧ (offerMark m s).minutes = s.minutes := by
  unfold offerMark
  split <;> exact ⟨rfl, rfl⟩

/-! The marks and lists with which a grant and an end of the lane close (R139, R140). -/

theorem announceLane_laneKept (n : Nat) (s : State) :
    LaneKept s (markLists [.share] (offerMark .laneBridge (offerMark (.laneSeat n) s))) where
  frame := ((offerMark_floorFrame _ s).trans (offerMark_floorFrame _ _)).trans (markLists_floorFrame _ _)
  floor := ((offerMark_kept _ s).trans (offerMark_kept _ _)).trans (markLists_kept _ _)
  share := (offerMark_share_minutes _ _).1.trans (offerMark_share_minutes _ s).1

theorem announceLane_minutes (n : Nat) (s : State) :
    (markLists [.share] (offerMark .laneBridge (offerMark (.laneSeat n) s))).minutes = s.minutes :=
  (offerMark_share_minutes _ _).2.trans (offerMark_share_minutes _ s).2

theorem laneSeat_mem_announceLane (n : Nat) (s : State) :
    .laneSeat n ∈ (markLists [.share] (offerMark .laneBridge (offerMark (.laneSeat n) s))).sched.class1 :=
  (markLists_kept _ _).marks (offerMark_keeps (mem_offerMark _ s))

theorem laneBridge_mem_announceLane (n : Nat) (s : State) :
    .laneBridge ∈ (markLists [.share] (offerMark .laneBridge (offerMark (.laneSeat n) s))).sched.class1 :=
  (markLists_kept _ _).marks (mem_offerMark _ _)

/-! The minutes unit. -/

theorem offerMinute_share (s : State) : (offerMinute s).share = s.share := by
  unfold offerMinute
  split
  · rfl
  · split <;> rfl

theorem appendRecord_share (r : RecRequest) (s : State) : (appendRecord r s).share = s.share := offerMinute_share _

theorem dropRecord_share (k : RecKind) (s : State) : (dropRecord k s).share = s.share := by
  unfold dropRecord
  dsimp only
  split
  · exact (raise_share_minutes _ _ _ _).1
  · rfl

theorem fitGap_share (k : RecKind) (s : State) : (fitGap k s).share = s.share := by
  unfold fitGap
  split
  · exact appendRecord_share _ s
  · rfl

theorem admitRecord_share (r : RecRequest) (s : State) : (admitRecord r s).share = s.share := by
  unfold admitRecord
  split
  · rfl
  · split
    · exact (appendRecord_share r _).trans (fitGap_share _ s)
    · exact dropRecord_share _ s

theorem admitRecord_laneKept (r : RecRequest) (s : State) : LaneKept s (admitRecord r s) :=
  ⟨admitRecord_floorFrame r s, admitRecord_kept r s, admitRecord_share r s⟩

/-! ### The record of a share's end (R172, R174, R179) -/

/-- The offer of a MINUTE takes a credit and leaves the records where they are (R182). -/
theorem offerMinute_records (s : State) :
    (offerMinute s).minutes.queue = s.minutes.queue ∧ (offerMinute s).minutes.nextSeq = s.minutes.nextSeq := by
  unfold offerMinute
  split
  · exact ⟨rfl, rfl⟩
  · split <;> exact ⟨rfl, rfl⟩

/-- R174: an appended record stands at the tail under the next sequence; below grade 3 it shows its seat (R172). -/
theorem appendRecord_records {s : State} (shown : gradeNow s < 3) (r : RecRequest) :
    (appendRecord r s).minutes.queue = s.minutes.queue ++
      [{ seq := s.minutes.nextSeq, time := s.hold.tableTime, kind := r.kind, seat := r.seat, channel := r.channel,
         reason := r.reason, duration := r.duration, detail := r.detail }] ∧
    (appendRecord r s).minutes.nextSeq = (s.minutes.nextSeq + 1) % 65536 := by
  obtain ⟨queue, nextSeq⟩ := offerMinute_records _
  refine ⟨queue.trans ?_, nextSeq⟩
  simp [Nat.not_le.mpr shown]

/-- A record that passes the filter and finds room, no drop being due, is appended alone (R179). -/
theorem admitRecord_of_admitted {s : State} {r : RecRequest} (passes : filtered s r = false)
    (room : admitted s r.kind = true) (undropped : s.minutes.drop = 0) : admitRecord r s = appendRecord r s := by
  simp [admitRecord, passes, room, fitGap, undropped]

/-- R174: a closing record asks for one free entry, in either mode of the minutes. -/
theorem admitted_of_closing {s : State} {k : RecKind} (closing : k.group = .closing)
    (free : s.minutes.queue.length < 32) : admitted s k = true := by
  have entry : 1 ≤ freeEntries s := by
    simp only [freeEntries, Config.minutesSize]
    omega
  simp [admitted, closing, roomFor, entry]

/-- R172: a range over every seat and class lets the share's end of a seat through. -/
theorem shareEnd_unfiltered {s : State} {n : Nat}
    (every : s.minutes.rangeA = { enabled := true, first := 1, last := 80, mask := 7 }) (low : 1 ≤ n) (high : n ≤ 80)
    (reason : Reason) : filtered s { kind := .shareEnd, seat := some n, reason := reason } = false := by
  have admits : s.minutes.rangeA.admits 2 n = true := by
    simp [every, LogRange.admits, low, high]
  simp [filtered, RecKind.classBit, admits]

/-! ### The end of a share (R140) -/

/-- The lane is free of `x`, with the grace timer stopped and the LANE marks of its seat and of the bridge waiting; nothing
else of the floor is different. -/
structure LaneEnded (x : Holder) (s t : State) : Prop where
  frame : FloorFrame s t
  floor : FloorKept s t
  share : t.share = { s.share with holder := none, grace := none }
  seat : .laneSeat x.seat ∈ t.sched.class1
  bridge : .laneBridge ∈ t.sched.class1

theorem LaneEnded.kept {x : Holder} {s t u : State} (a : LaneEnded x s t) (b : LaneKept t u) : LaneEnded x s u where
  frame := a.frame.trans b.frame
  floor := a.floor.trans b.floor
  share := b.share.trans a.share
  seat := b.floor.marks a.seat
  bridge := b.floor.marks a.bridge

theorem endShareOnly_of_free {s : State} (free : s.share.holder = none) (reason : Reason) :
    endShareOnly reason s = s := by
  simp [endShareOnly, free]

theorem endShareOnly_ended {s : State} {x : Holder} (held : s.share.holder = some x) (reason : Reason) :
    LaneEnded x s (endShareOnly reason s) := by
  simp only [endShareOnly, held]
  have recorded := admitRecord_laneKept { kind := .shareEnd, seat := some x.seat, reason := reason } s
  generalize admitRecord _ s = u at recorded ⊢
  have announced := announceLane_laneKept x.seat (u.setShare { u.share with holder := none, grace := none })
  exact
    { frame := (recorded.frame.trans (setShare_floorFrame u _)).trans announced.frame
      floor := (recorded.floor.trans (setShare_kept u _)).trans announced.floor
      share := by rw [announced.share, ← recorded.share]; rfl
      seat := laneSeat_mem_announceLane x.seat _
      bridge := laneBridge_mem_announceLane x.seat _ }

/-- An end puts its SHARE END to the minutes unit and nothing besides. -/
theorem endShareOnly_minutes {s : State} {x : Holder} (held : s.share.holder = some x) (reason : Reason) :
    (endShareOnly reason s).minutes =
      (admitRecord { kind := .shareEnd, seat := some x.seat, reason := reason } s).minutes := by
  simp only [endShareOnly, held]
  exact announceLane_minutes x.seat _

/-- With no seat waiting the handover pass of an end grants nobody the lane (R141). -/
theorem endShare_of_none_waiting {s : State} {x : Holder} (held : s.share.holder = some x)
    (alone : s.share.waiting = []) (reason : Reason) : endShare reason s = endShareOnly reason s := by
  have waiting : (endShareOnly reason s).share.waiting = [] := by
    rw [(endShareOnly_ended held reason).share]
    exact alone
  simp [endShare, held, handover, waiting, handoverGo]

/-! ### The grace timer (R143) -/

theorem exec_graceExpiry {s : State} {g : Nat} (run : mainRunning s = true) (grace : s.share.grace = some g) :
    exec .graceExpiry s = .next (settle (endShare .grace s)) := by
  have unfolded : exec .graceExpiry s =
      .next (inMain (fun t => if t.share.grace.isSome then endShare .grace t else t) s) := rfl
  simp [unfolded, inMain, run, grace]

/-- Settles O23: with no seat waiting the expiry is the end of the share alone, and its record is a closing one that no
range, drop or grade stands against. -/
theorem graceExpiryEndsShare : Obligations.GraceExpiryEndsShare := by
  intro s x g run held grace alone
  have ended := (endShareOnly_ended held .grace).kept (settle_laneKept _)
  obtain ⟨_, _, _, _, settled, _⟩ := settle_arbiterFrame (endShareOnly .grace s)
  refine ⟨_, by rw [exec_graceExpiry run grace, endShare_of_none_waiting held alone], ended.frame, ended.floor.chan,
    ended.floor.queue, ended.share, ended.seat, ended.bridge, fun every low high free undropped shown => ?_⟩
  rw [settled, endShareOnly_minutes held,
    admitRecord_of_admitted (shareEnd_unfiltered every low high .grace) (admitted_of_closing rfl free) undropped]
  exact appendRecord_records shown _

/-! ### The grant of the lane by order (R139, R145) -/

theorem gradeNow_of_floorFrame {s t : State} (a : FloorFrame s t) : gradeNow t = gradeNow s := by
  obtain ⟨_, _, _, _, _, _, _, ctx, _⟩ := a
  simp only [gradeNow, ctx]

/-- Seat `n` holds the lane with basis UNBOUND and has left the waiting list, and the LANE marks of its seat and of the
bridge wait; the channels, the queue and the other blocks stand. -/
structure LaneGranted (n : Nat) (s t : State) : Prop where
  frame : FloorFrame s t
  floor : FloorKept s t
  holder : t.share.holder = some { seat := n, basis := .unbound, far := decide (gradeNow s = 0) }
  waiting : t.share.waiting = s.share.waiting.erase n
  seat : .laneSeat n ∈ t.sched.class1
  bridge : .laneBridge ∈ t.sched.class1

theorem LaneGranted.kept {n : Nat} {s t u : State} (a : LaneGranted n s t) (b : LaneKept t u) : LaneGranted n s u where
  frame := a.frame.trans b.frame
  floor := a.floor.trans b.floor
  holder := by rw [b.share, a.holder]
  waiting := by rw [b.share, a.waiting]
  seat := b.floor.marks a.seat
  bridge := b.floor.marks a.bridge

theorem grantLane_granted (n : Nat) (s : State) : LaneGranted n s (grantLane n .order s) := by
  have frame := grantLane_floorFrame n .order s
  have floor := grantLane_kept n .order s
  simp only [grantLane] at frame floor ⊢
  generalize hu : leaveWaiting n _ = u at frame floor ⊢
  have recorded := admitRecord_laneKept { kind := .shareStart, seat := some n, reason := .order } u
  have share := (recorded.trans (announceLane_laneKept n _)).share
  exact
    { frame := frame
      floor := floor
      holder := by rw [share, ← hu]; rfl
      waiting := by rw [share, ← hu]; rfl
      seat := laneSeat_mem_announceLane n _
      bridge := laneBridge_mem_announceLane n _ }

/-- A grant that follows the end of another share is a grant from where that share stood. -/
theorem LaneEnded.granted {x : Holder} {n : Nat} {s t u : State} (a : LaneEnded x s t) (b : LaneGranted n t u) :
    LaneGranted n s u where
  frame := a.frame.trans b.frame
  floor := a.floor.trans b.floor
  holder := by rw [b.holder, gradeNow_of_floorFrame a.frame]
  waiting := by rw [b.waiting, a.share]
  seat := b.seat
  bridge := b.bridge

/-- R145: the lane passes to the seat, and the mark of a seat that held it waits too. -/
theorem shareGrantTake_granted (n : Nat) (s : State) :
    LaneGranted n s (shareGrantTake n s) ∧
      ∀ x ∈ s.share.holder, .laneSeat x.seat ∈ (shareGrantTake n s).sched.class1 := by
  have granted := grantLane_granted n (endShareOnly .order s)
  unfold shareGrantTake
  cases held : s.share.holder with
  | none =>
      rw [endShareOnly_of_free held] at granted ⊢
      exact ⟨granted, by simp⟩
  | some x =>
      have ended := endShareOnly_ended held .order
      refine ⟨ended.granted granted, fun y hy => ?_⟩
      cases hy
      exact granted.floor.marks ended.seat

/-! ### SHARE GRANT, SHARE END and SHARE CLEAR WAITING (R145, R146) -/

theorem exec_shareGrant (h : OrderHead) (n : Nat) (s : State) :
    exec (.shareGrant h n) s = .next (runOrder (.shareGrant h n) h 0x68 (shareGrantOrder n) s) := rfl

theorem exec_shareEnd (h : OrderHead) (s : State) :
    exec (.shareEnd h) s = .next (runOrder (.shareEnd h) h 0x69 shareEndOrder s) := rfl

theorem exec_shareClearWaiting (h : OrderHead) (s : State) :
    exec (.shareClearWaiting h) s = .next (runOrder (.shareClearWaiting h) h 0x6A shareClearWaitingOrder s) := rfl

theorem sessionLive_eq_false {s : State} (h : liveCtx s = none) : sessionLive s = false := by simp [sessionLive, h]

theorem present_of_eligibleSix {s : State} {n : Nat} (h : eligibleSix s n = true) : present s n = true := by
  simp only [eligibleSix, Bool.and_eq_true] at h
  obtain ⟨⟨⟨⟨_, here⟩, _⟩, _⟩, _⟩ := h
  exact here

theorem eligibleSix_eq_false {s : State} {n : Nat}
    (h : s.stn.plan.contentFitted = false ∨ enabledSeat s n = false ∨ hasShareRight s n = false) :
    eligibleSix s n = false := by
  rcases h with unfitted | disabled | rightless
  · simp [eligibleSix, unfitted]
  · simp [eligibleSix, disabled]
  · simp [eligibleSix, rightless]

/-- R145: past the first four checks a SHARE GRANT turns on the reserve alone. -/
theorem shareGrantOrder_of_eligible {s : State} {n : Nat} (live : liveCtx s ≠ none) (seat : isSeat n = true)
    (other : isHolder s n = false) (six : eligibleSix s n = true) :
    shareGrantOrder n s =
      if shareRoom s s.share.holder.isSome then done [] (shareGrantTake n s) else refuse .logFull s := by
  simp [shareGrantOrder, sessionLive_of_liveCtx live, seat, present_of_eligibleSix six, other, six]

/-- R145, check 4: the seat holds the lane, or a condition of R137 fails it. -/
theorem shareGrantOrder_barred {s : State} {n : Nat} (live : liveCtx s ≠ none) (seat : isSeat n = true)
    (here : present s n = true)
    (barred : isHolder s n = true ∨ s.stn.plan.contentFitted = false ∨ enabledSeat s n = false ∨
      hasShareRight s n = false) : shareGrantOrder n s = refuse .state s := by
  rcases barred with holds | unmet
  · simp [shareGrantOrder, sessionLive_of_liveCtx live, seat, here, holds]
  · simp [shareGrantOrder, sessionLive_of_liveCtx live, seat, here, eligibleSix_eq_false unmet]

/-- A SHARE GRANT that is taken (R145). -/
theorem shareGrant_takes {h : OrderHead} {n : Nat} {s : State} (ready : Ready (.shareGrant h n) s)
    (taken : shareGrantOrder n s = done [] (shareGrantTake n s)) :
    ∃ t, exec (.shareGrant h n) s = .next t ∧ LaneGranted n s t ∧
      (∀ x ∈ s.share.holder, .laneSeat x.seat ∈ t.sched.class1) ∧
      .answer { dest := h.source, tag := h.tag, code := 0x68, status := .done, part := h.part, parts := 1,
                result := [] } ∈ t.sched.class2 := by
  obtain ⟨granted, ended⟩ := shareGrantTake_granted n s
  have kept := answered_laneKept h 0x68 .done [] (shareGrantTake n s)
  have answer := answer_mem_answered h 0x68 .done [] (shareGrantTake n s)
  rw [List.drop_nil, List.take_nil] at answer
  exact ⟨_, by rw [exec_shareGrant, runOrder_done ready h 0x68 taken], granted.kept kept,
    fun x held => kept.floor.marks (ended x held), answer⟩

/-- R146: a SHARE END with no seat waiting frees the lane and answers seat 0. -/
theorem shareEnd_frees {h : OrderHead} {s : State} {x : Holder} (ready : Ready (.shareEnd h) s)
    (live : liveCtx s ≠ none) (held : s.share.holder = some x) (alone : s.share.waiting = []) :
    ∃ t, exec (.shareEnd h) s = .next t ∧ LaneEnded x s t ∧
      .answer { dest := h.source, tag := h.tag, code := 0x69, status := .done, part := h.part, parts := 1,
                result := ([0].drop (28 * h.part)).take 28 } ∈ t.sched.class2 := by
  have ended := endShareOnly_ended held .order
  have nobody : holderByte (endShareOnly .order s) = 0 := by simp [holderByte, ended.share, byte]
  have taken : shareEndOrder s = done [0] (endShareOnly .order s) := by
    simp [shareEndOrder, sessionLive_of_liveCtx live, held, endShare_of_none_waiting held alone, nobody]
  exact ⟨_, by rw [exec_shareEnd, runOrder_done ready h 0x69 taken], ended.kept (answered_laneKept _ _ _ _ _),
    answer_mem_answered h 0x69 .done [0] _⟩

/-- Settles O55, order by order and check by check. -/
theorem shareOrdersMoveLane : Obligations.ShareOrdersMoveLane := by
  intro h n s
  refine ⟨fun ready => ?_, fun ready => ?_, fun ready => ?_⟩
  · have refused {status : Status} (e : shareGrantOrder n s = refuse status s) :
        exec (.shareGrant h n) s = .next (answered h 0x68 status [] s) := by
      rw [exec_shareGrant, runOrder_refused ready h 0x68 e]
    refine ⟨fun dead => refused ?_, fun live range => refused ?_, fun live low high => ?_⟩
    · simp [shareGrantOrder, sessionLive_eq_false dead]
    · simp [shareGrantOrder, sessionLive_of_liveCtx live, isSeat_eq_false range]
    · have seat := isSeat_of_range low high
      refine ⟨fun absent => refused ?_, fun here barred => refused (shareGrantOrder_barred live seat here barred),
        fun other six => ?_⟩
      · simp [shareGrantOrder, sessionLive_of_liveCtx live, seat, absent]
      · have turns := shareGrantOrder_of_eligible live seat other six
        refine ⟨fun full => refused (by simp [turns, full]), fun room => ?_⟩
        obtain ⟨t, run, granted, ended, answer⟩ := shareGrant_takes ready (by simp [turns, room])
        exact ⟨t, run, granted.frame, granted.floor.chan, granted.floor.queue, granted.holder, granted.waiting,
          granted.seat, granted.bridge, ended, answer⟩
  · have refused {status : Status} (e : shareEndOrder s = refuse status s) :
        exec (.shareEnd h) s = .next (answered h 0x69 status [] s) := by
      rw [exec_shareEnd, runOrder_refused ready h 0x69 e]
    refine ⟨fun dead => refused ?_, fun live free => refused ?_, fun x live held alone => ?_⟩
    · simp [shareEndOrder, sessionLive_eq_false dead]
    · simp [shareEndOrder, sessionLive_of_liveCtx live, free]
    · obtain ⟨t, run, ended, answer⟩ := shareEnd_frees ready live held alone
      exact ⟨t, run, ended.frame, ended.floor.chan, ended.floor.queue, ended.share, ended.seat, ended.bridge, answer⟩
  · rw [exec_shareClearWaiting]
    split
    · rename_i dead
      have refuses : shareClearWaitingOrder s = refuse .noSession s := by
        simp [shareClearWaitingOrder, sessionLive_eq_false dead]
      rw [runOrder_refused ready h 0x6A refuses]
    · rename_i live
      have clears : shareClearWaitingOrder s = done [byte s.share.waiting.length]
          (s.setShare { s.share with waiting := [], deferred := none }) := by
        simp [shareClearWaitingOrder, sessionLive_of_liveCtx live]
      rw [runOrder_done ready h 0x6A clears]
      rfl

end Sys2Proof.ContentShare
end

section
/-! PROOFS. The seat panels and the panel engine (chapter 8): the expiries of the flash and of the list refresh timer (and
of the cadence request timer of chapter 11), SET CLIP with the tile store, and the staging of the panel orders. The laws
of the arbiter's lamp choice, of the window writes and of the executor's start come before the statements they settle. -/

namespace Sys2Proof.SeatPanels

open Sys2Proof Sys2Proof.Machine Sys2Proof.MicrophoneChannels

/-! ### The timers (R154, R157, R207) -/

theorem exec_flashExpiry {s : State} (run : mainRunning s = true) (n : Nat) :
    exec (.flashExpiry n) s = .next (settle (flashOver n s)) := congrArg _ (if_pos run)

theorem exec_listRefreshExpiry {s : State} (run : mainRunning s = true) : exec .listRefreshExpiry s =
    .next (settle (if s.panel.refresh then markLists [.speakers] s else s)) := congrArg _ (if_pos run)

theorem exec_cadenceTimerExpiry {s : State} (run : mainRunning s = true) :
    exec .cadenceTimerExpiry s = .next (settle (cadenceTimerOver s)) := congrArg _ (if_pos run)

theorem flashOver_of_flash {n : Nat} {s : State} (on : (panelOf s n).flash = true) :
    flashOver n s = setPanelOf n { panelOf s n with flash := false, lampDirty := true } s := if_pos on

theorem setPanelOf_of_pos {n : Nat} (low : 1 ≤ n) (r : PanelRecord) (s : State) : setPanelOf n r s =
    { s with panel := { s.panel with records := s.panel.records.setIfInBounds (n - 1) r } } :=
  if_neg (by omega)

theorem markLists_speakers (s : State) : markLists [.speakers] s = { s with panel := { s.panel with
    records := s.panel.records.map fun r => if r.page = .speakers then { r with listDirty := true } else r } } := by
  simp only [markLists, mapPanels, List.mem_singleton]
  rfl

/-- The cadence that R206 gives once the request timer has stopped. -/
theorem cadenceTimerOver_of_timer {s : State} (on : s.sup.timer = true) : cadenceTimerOver s =
    { s with sup := { s.sup with
      timer := false,
      cadence := if s.ctx.isSome = true ∨ s.stn.plan.idleAllowed = false then .full else .idle } } := by
  have conditions : cadenceFor (s.setSup { s.sup with timer := false }) =
      if s.ctx.isSome = true ∨ s.stn.plan.idleAllowed = false then .full else .idle := by
    simp [cadenceFor]
  rw [cadenceTimerOver, if_pos on, retestCadence, conditions]
  rfl

/-! ### The lamp that the arbiter offers (R152, R167) -/

theorem station_of_floorFrame {s t : State} (a : FloorFrame s t) (n : Nat) : station t n = station s n := by
  obtain ⟨_, _, _, _, _, stn, _⟩ := a
  simp only [station, stn]

theorem computedLamp_of_floorKept {s t : State} (a : FloorKept s t) (n : Nat) :
    computedLamp t n = computedLamp s n := by
  have table : channelAt t = channelAt s := funext a.channelAt
  simp only [computedLamp, channelOf, table, a.queue]

/-- A seat without flash: the content of its lamp is what the floor, its call and its chair make it. -/
theorem lampNow_of_arbiterFrame {s t : State} {n : Nat} (a : ArbiterFrame s t) (off : (panelOf t n).flash = false) :
    lampNow t n = { lamp := computedLamp s n, call := (station s n).call, chairBus := chairSeat s n } := by
  have frame : FloorFrame s t := a.1
  simp [lampNow, off, computedLamp_of_floorKept (.of_arbiterFrame a), station_of_floorFrame frame,
    chairSeat_of_floorFrame frame]

/-- A write of record `n` is read back at `n` or nowhere. -/
theorem panelOf_setPanelOf_or (n m : Nat) (r : PanelRecord) (s : State) :
    (m = n ∧ panelOf (setPanelOf n r s) m = r) ∨ panelOf (setPanelOf n r s) m = panelOf s m := by
  by_cases same : m = n
  · subst same
    by_cases range : 1 ≤ m ∧ m ≤ 80
    · exact .inl ⟨rfl, panelOf_setPanelOf_self range r s⟩
    · by_cases zero : m = 0
      · exact .inr (by rw [setPanelOf, if_pos zero])
      · have beyond : ¬m - 1 < 80 := by omega
        exact .inr (by simp [panelOf, setPanelOf, zero, beyond])
  · exact .inr (panelOf_setPanelOf_ne same r s)

/-- What the arbiter's lamp pass looks at in a panel record stands, in every record. -/
def LampsKept (s t : State) : Prop :=
  ∀ m, (panelOf t m).lampDirty = (panelOf s m).lampDirty ∧ (panelOf t m).lampSent = (panelOf s m).lampSent ∧
    (panelOf t m).flash = (panelOf s m).flash

theorem LampsKept.refl (s : State) : LampsKept s s := fun _ => ⟨rfl, rfl, rfl⟩

theorem LampsKept.trans {s t u : State} (a : LampsKept s t) (b : LampsKept t u) : LampsKept s u := fun m =>
  ⟨(b m).1.trans (a m).1, (b m).2.1.trans (a m).2.1, (b m).2.2.trans (a m).2.2⟩

theorem LampsKept.ite {s t u : State} {c : Prop} [Decidable c] (a : LampsKept s t) (b : LampsKept s u) :
    LampsKept s (if c then t else u) := by
  split <;> assumption

/-- A write of a record whose lamp fields stay. -/
theorem setPanelOf_lampsKept {n : Nat} {r : PanelRecord} {s : State} (dirty : r.lampDirty = (panelOf s n).lampDirty)
    (sent : r.lampSent = (panelOf s n).lampSent) (flash : r.flash = (panelOf s n).flash) :
    LampsKept s (setPanelOf n r s) := by
  intro m
  rcases panelOf_setPanelOf_or n m r s with ⟨rfl, written⟩ | kept
  · rw [written]
    exact ⟨dirty, sent, flash⟩
  · rw [kept]
    exact ⟨rfl, rfl, rfl⟩

theorem arbiterClean_lampsKept (s : State) : LampsKept s (arbiterClean s) := by
  unfold arbiterClean
  generalize seatNumbers = l
  induction l generalizing s with
  | nil => exact .refl s
  | cons n l ih =>
      refine .trans ?_ (ih _)
      exact .ite (.ite (.ite (setPanelOf_lampsKept rfl rfl rfl) (.refl s))
        (.ite (setPanelOf_lampsKept rfl rfl rfl) (.refl s))) (.refl s)

/-- The lamp pass goes by the seats that are not PRESENT or whose lamp is clean. -/
theorem lampPass_append {s : State} {l : List Nat}
    (idle : ∀ m ∈ l, present s m = false ∨ (panelOf s m).lampDirty = false) (rest : List Nat) :
    lampPass (l ++ rest) s = lampPass rest s := by
  induction l with
  | nil => rfl
  | cons m l ih =>
      obtain ⟨first, others⟩ := List.forall_mem_cons.mp idle
      have skipped : ¬(present s m && (panelOf s m).lampDirty) = true := by
        rcases first with h | h <;> simp [h]
      rw [List.cons_append, lampPass, if_neg skipped, ih others]

/-- The lamp pass stops at a dirty PRESENT seat whose lamp has changed since it was last sent. -/
theorem lampPass_cons_dirty {s : State} {n : Nat} (here : present s n = true) (dirty : (panelOf s n).lampDirty = true)
    (changed : (panelOf s n).lampSent ≠ some (lampNow s n)) (rest : List Nat) :
    lampPass (n :: rest) s =
      (some (.lamp n (lampNow s n)), setPanelOf n { panelOf s n with lampDirty := false } s) := by
  simp [lampPass, here, dirty, changed]

theorem seatNumbers_split {n : Nat} (low : 1 ≤ n) (high : n ≤ 80) :
    seatNumbers = List.range' 1 (n - 1) ++ n :: List.range' (n + 1) (80 - n) := by
  have tail : n :: List.range' (n + 1) (80 - n) = List.range' n (81 - n) := by
    rw [show 81 - n = 80 - n + 1 by omega, List.range'_succ]
  have join := List.range'_append_1 (s := 1) (m := n - 1) (n := 81 - n)
  rw [show 1 + (n - 1) = n by omega, show n - 1 + (81 - n) = 80 by omega] at join
  rw [tail, join, seatNumbers]

/-- What the lamp pass offers is the arbiter's choice (R167). -/
theorem offerPresentation_of_lamp {s t : State} {c : OutCell} (free : s.sched.presentation = none)
    (lamps : lampPass seatNumbers (arbiterClean s) = (some c, t)) :
    offerPresentation s = t.setSched { t.sched with presentation := some c } := by
  have choice : presentationChoice s = (some c, t) := by
    unfold presentationChoice
    rw [lamps]
  simp only [offerPresentation, free, choice]

/-- With no cell waiting a command ends with the lamp of the lowest dirty PRESENT seat in the scheduler, if that lamp has
changed since it was last sent. -/
theorem settle_offers_lamp {s : State} {n : Nat} (low : 1 ≤ n) (high : n ≤ 80) (free : s.sched.presentation = none)
    (here : present s n = true) (dirty : (panelOf s n).lampDirty = true) (off : (panelOf s n).flash = false)
    (lowest : ∀ m, 1 ≤ m → m < n → present s m = false ∨ (panelOf s m).lampDirty = false)
    (changed : (panelOf s n).lampSent ≠ some (lampNow s n)) :
    (settle s).sched.presentation = some (.lamp n (lampNow s n)) ∧
      (panelOf (settle s) n).lampDirty = false ∧ (panelOf (settle s) n).flash = false := by
  obtain ⟨c, hc⟩ : ∃ c, c = arbiterClean (setRefreshTimer s) := ⟨_, rfl⟩
  have frame : ArbiterFrame s c := hc ▸ (setPanel_arbiterFrame s _).trans (arbiterClean_arbiterFrame _)
  have lamps : LampsKept s c := hc ▸ arbiterClean_lampsKept (setRefreshTimer s)
  obtain ⟨sameDirty, sameSent, sameFlash⟩ := lamps n
  have samePresent := present_of_floorFrame frame.1
  have sameLamp : lampNow c n = lampNow s n := by
    rw [lampNow_of_arbiterFrame frame (sameFlash.trans off), lampNow_of_arbiterFrame (.refl s) off]
  have below : ∀ m ∈ List.range' 1 (n - 1), present c m = false ∨ (panelOf c m).lampDirty = false := by
    intro m hm
    rw [List.mem_range'_1] at hm
    rw [samePresent, (lamps m).1]
    exact lowest m hm.1 (by omega)
  have chosen : lampPass seatNumbers (arbiterClean (setRefreshTimer s)) =
      (some (.lamp n (lampNow s n)), setPanelOf n { panelOf c n with lampDirty := false } c) := by
    rw [← hc, seatNumbers_split low high, lampPass_append below,
      lampPass_cons_dirty ((samePresent n).trans here) (sameDirty.trans dirty) (by rwa [sameSent, sameLamp]), sameLamp]
  have settled : settle s = _ := offerPresentation_of_lamp (s := setRefreshTimer s) free chosen
  have record := panelOf_setPanelOf_self ⟨low, high⟩ { panelOf c n with lampDirty := false } c
  have read (t : State) (x : Sched) : panelOf (t.setSched x) n = panelOf t n := rfl
  rw [settled]
  refine ⟨rfl, ?_, ?_⟩
  · rw [read, record]
  · rw [read, record]
    exact sameFlash.trans off

/-- Settles O28: each expiry by what it writes, and the flash's lamp by `settle_offers_lamp`. -/
theorem panelAndCadenceTimers : Obligations.PanelAndCadenceTimers := by
  refine fun s n run => ⟨fun low high on => ?_, fun low high on here free lowest changed => ?_, fun on => ?_,
    fun on => ?_⟩
  · rw [exec_flashExpiry run, flashOver_of_flash on, setPanelOf_of_pos low]
  · obtain ⟨t, ht⟩ : ∃ t, t = setPanelOf n { panelOf s n with flash := false, lampDirty := true } s := ⟨_, rfl⟩
    have frame : ArbiterFrame s t := ht ▸ setPanelOf_arbiterFrame n _ s
    have record : panelOf t n = { panelOf s n with flash := false, lampDirty := true } :=
      ht ▸ panelOf_setPanelOf_self ⟨low, high⟩ _ s
    have lamp := lampNow_of_arbiterFrame (n := n) frame (by rw [record])
    have samePresent := present_of_floorFrame frame.1
    have waits : t.sched.presentation = none := by rw [ht, setPanelOf_of_pos low]; exact free
    obtain ⟨offered, clean, off⟩ := settle_offers_lamp low high waits ((samePresent n).trans here) (by rw [record])
      (by rw [record])
      (fun m hm hn => by
        rw [samePresent, ht, panelOf_setPanelOf_ne (Nat.ne_of_lt hn)]
        exact lowest m hm hn)
      (by rw [record, lamp]; exact changed)
    exact ⟨settle t, by rw [exec_flashExpiry run, flashOver_of_flash on, ht], lamp ▸ offered, clean, off⟩
  · rw [exec_listRefreshExpiry run, if_pos on, markLists_speakers]
  · rw [exec_cadenceTimerExpiry run, cadenceTimerOver_of_timer on]

/-! ### SET CLIP (R164) -/

theorem exec_setClip (h : OrderHead) (x0 x1 y0 y1 : Nat) (tg : TargetSet) (s : State) :
    exec (.setClip h x0 x1 y0 y1 tg) s =
      .next (runOrder (.setClip h x0 x1 y0 y1 tg) h 0x74 (setClipOrder x0 x1 y0 y1 tg) s) := rfl

theorem windowOk_iff {x0 x1 y0 y1 : Nat} :
    windowOk x0 x1 y0 y1 = true ↔ x0 ≤ x1 ∧ x1 ≤ 255 ∧ y0 ≤ y1 ∧ y1 ≤ 127 := by
  simp [windowOk, and_assoc]

theorem setClipOrder_outOfRange {x0 x1 y0 y1 : Nat} {tg : TargetSet} (s : State)
    (bad : targetsOf tg = none ∨ x1 < x0 ∨ 255 < x1 ∨ y1 < y0 ∨ 127 < y1) :
    setClipOrder x0 x1 y0 y1 tg s = refuse .range s := by
  unfold setClipOrder
  split
  case h_2 => rfl
  case h_1 named =>
    refine if_neg fun ok => ?_
    obtain ⟨hx, hx1, hy, hy1⟩ := windowOk_iff.mp ok
    rcases bad with untargeted | bad
    · cases named.symm.trans untargeted
    · omega

theorem setClipOrder_inRange {x0 x1 y0 y1 : Nat} {tg : TargetSet} {T : Targets} (s : State)
    (named : targetsOf tg = some T) (window : x0 ≤ x1 ∧ x1 ≤ 255 ∧ y0 ≤ y1 ∧ y1 ≤ 127) :
    setClipOrder x0 x1 y0 y1 tg s = done [byte (resolveClip s T).length]
      (writeWindow { x0 := x0, x1 := x1, y0 := y0, y1 := y1 } (resolveClip s T) s) := by
  simp only [setClipOrder, named]
  exact if_pos (windowOk_iff.mpr window)

theorem setPanelOf_records (n : Nat) (r : PanelRecord) (s : State) : setPanelOf n r s =
    s.setPanel { s.panel with records := (setPanelOf n r s).panel.records } := by
  unfold setPanelOf
  split <;> rfl

/-- The windows' writing changes nothing but panel records. -/
theorem writeWindow_records (w : Window) (l : List Nat) (s : State) : writeWindow w l s =
    s.setPanel { s.panel with records := (writeWindow w l s).panel.records } := by
  unfold writeWindow
  induction l generalizing s with
  | nil => rfl
  | cons m l ih =>
      rw [List.foldl_cons, ih, setPanelOf_records]
      rfl

/-- Exactly the listed seats have the window. -/
theorem panelOf_writeWindow {n : Nat} (low : 1 ≤ n) (high : n ≤ 80) (w : Window) (l : List Nat) (s : State) :
    panelOf (writeWindow w l s) n = if n ∈ l then { panelOf s n with window := w } else panelOf s n := by
  unfold writeWindow
  induction l generalizing s with
  | nil => rfl
  | cons m l ih =>
      rw [List.foldl_cons, ih]
      by_cases same : n = m
      · subst same
        simp [panelOf_setPanelOf_self ⟨low, high⟩]
      · simp [panelOf_setPanelOf_ne same, same]

theorem getElem?_records {n : Nat} (low : 1 ≤ n) (high : n ≤ 80) (s : State) :
    s.panel.records[n - 1]? = some (panelOf s n) := by
  have inside : n - 1 < 80 := by omega
  rw [panelOf, if_neg (by omega), Vector.getElem?_eq_getElem inside, Option.getD_some]

/-! ### The tile store (R159, R160) -/

theorem exec_tileLoad (h : OrderHead) (k p : Nat) (d : List Byte) (s : State) :
    exec (.tileLoad h k p d) s = .next (runOrder (.tileLoad h k p d) h 0x75 (tileLoadOrder k p d) s) := rfl

theorem exec_tileFlip (h : OrderHead) (k : Nat) (s : State) :
    exec (.tileFlip h k) s = .next (runOrder (.tileFlip h k) h 0x76 (tileFlipOrder k) s) := rfl

theorem tileLoadOrder_inRange {k p : Nat} (range : k ≤ 95 ∧ p ≤ 15) (d : List Byte) (s : State) :
    tileLoadOrder k p d s =
      done [] (setTile k { tileAt s k with back := (tileAt s k).back.setIfInBounds p (some d) } s) := if_neg (by omega)

theorem tileLoadOrder_outOfRange {k p : Nat} (range : ¬(k ≤ 95 ∧ p ≤ 15)) (d : List Byte) (s : State) :
    tileLoadOrder k p d s = refuse .range s := if_pos (by omega)

/-- The three checks of a flip in their order, and the exchange of the banks (R160). -/
theorem tileFlipOrder_eq (k : Nat) (s : State) : tileFlipOrder k s =
    if 95 < k then refuse .range s
    else if Bank.loaded (tileAt s k).back = false then refuse .state s
    else if tileInUse s k = true then refuse .busy s
    else done [] (setTile k { front := (tileAt s k).back, back := (tileAt s k).front } s) := by
  simp only [tileFlipOrder, Bool.not_eq_true']

/-- Settles O58, order by order along its checks; the records that SET CLIP leaves are those of `writeWindow`. -/
theorem clipAndTileOrders : Obligations.ClipAndTileOrders := by
  refine fun h s => ⟨fun x0 x1 y0 y1 tg ready => ⟨fun bad => ?_, fun T named hx hx1 hy hy1 => ?_⟩,
    fun k p d ready => ?_, fun k ready => ?_⟩
  · rw [exec_setClip, runOrder_refused ready h 0x74 (setClipOrder_outOfRange s bad)]
  · obtain ⟨w, hw⟩ : ∃ w : Window, w = { x0 := x0, x1 := x1, y0 := y0, y1 := y1 } := ⟨_, rfl⟩
    refine ⟨(writeWindow w (resolveClip s T) s).panel.records, ?_, fun n low high => ?_⟩
    · rw [exec_setClip, runOrder_done ready h 0x74 (setClipOrder_inRange s named ⟨hx, hx1, hy, hy1⟩), ← hw,
        writeWindow_records]
      rfl
    · rw [getElem?_records low high, panelOf_writeWindow low high, hw]
  · rw [exec_tileLoad]
    split
    case isTrue range => rw [runOrder_done ready h 0x75 (tileLoadOrder_inRange range d s)]; rfl
    case isFalse range => rw [runOrder_refused ready h 0x75 (tileLoadOrder_outOfRange range d s)]
  · have refused {status : Status} (e : tileFlipOrder k s = refuse status s) :
        exec (.tileFlip h k) s = .next (answered h 0x76 status [] s) := by
      rw [exec_tileFlip, runOrder_refused ready h 0x76 e]
    refine ⟨fun out => refused ?_, fun range unloaded => refused ?_, fun range loaded used => refused ?_,
      fun range loaded unused => ?_⟩
    · rw [tileFlipOrder_eq, if_pos out]
    · rw [tileFlipOrder_eq, if_neg (by omega), if_pos unloaded]
    · rw [tileFlipOrder_eq, if_neg (by omega), if_neg (by simp [loaded]), if_pos used]
    · have flips : tileFlipOrder k s =
          done [] (setTile k { front := (tileAt s k).back, back := (tileAt s k).front } s) := by
        rw [tileFlipOrder_eq, if_neg (by omega), if_neg (by simp [loaded]), if_neg (by simp [unused])]
      rw [exec_tileFlip, runOrder_done ready h 0x76 flips]
      rfl

/-! ### The executor's start (R161, R165, R166) -/

theorem raise_panel_eq (c : Cause) (event value : Nat) (s : State) : (raise c event value s).panel = s.panel := by
  have alert (t : State) : (offerAlert t).panel = t.panel := by
    unfold offerAlert
    split <;> rfl
  have notice (x : Notice) : (setNotice c.num x s).panel = s.panel := by
    unfold setNotice
    split <;> rfl
  unfold raise
  dsimp only
  split <;> simp only [alert, notice]

/-- With the staging slot empty the executor's walk changes nothing of the panel engine but the job. -/
theorem settleJob_panel {s : State} (empty : s.panel.staged = none) (fuel : Nat) :
    ∃ job, (settleJob fuel s).panel = { s.panel with job := job } := by
  cases fuel with
  | zero => exact ⟨s.panel.job, rfl⟩
  | succ fuel =>
      unfold settleJob
      split
      · exact ⟨s.panel.job, rfl⟩
      · rename_i j _
        split
        · exact ⟨s.panel.job, rfl⟩
        · split
          rename_i targets piece clipped _
          split
          · obtain ⟨t, ht⟩ : ∃ t, t = if clipped then raise .panel 2 j.op.code s else s := ⟨_, rfl⟩
            have same : t.panel = s.panel := by
              rw [ht]
              split
              · exact raise_panel_eq _ _ _ _
              · rfl
            rw [← ht]
            simp only [State.setPanel_panel, same, empty, raise_panel_eq]
            exact ⟨none, rfl⟩
          · exact ⟨_, rfl⟩

/-- A job without targets, and with nothing clipped, is complete with PANEL notice "idle" (R166). -/
theorem settleJob_without_targets {s : State} {j : Job} (job : s.panel.job = some j) (empty : s.panel.staged = none)
    (flight : j.inFlight = false) (unbuilt : j.built = none) (whole : j.clipped = false) (gone : j.targets = [])
    (fuel : Nat) : settleJob (fuel + 1) s = raise .panel 1 j.op.code (s.setPanel { s.panel with job := none }) := by
  simp [settleJob, job, flight, unbuilt, gone, whole, passOver, empty]

/-- The piece that the clip rules send is where the walk stands still (R163, R165). -/
theorem passOver_of_sent {s : State} {op : PanelOp} {n k : Nat} (inside : k < op.pieces)
    (sent : (buildPiece s op (panelOf s n).window k).isSome = true) (rest : List Nat) (clipped : Bool) :
    passOver s op (n :: rest) k clipped = (n :: rest, k, clipped) := by
  have first : ((List.range op.pieces).find? fun j =>
      decide (k ≤ j) && (buildPiece s op (panelOf s n).window j).isSome) = some k := by
    rw [List.find?_range_eq_some]
    refine ⟨by simp [sent], List.mem_range.mpr inside, fun j hj => ?_⟩
    simp [Nat.not_le.mpr hj]
  simp [passOver, first]

/-- The job holds its first piece ready where the clip rules send that piece. -/
theorem settleJob_of_sent {s : State} {j : Job} {n : Nat} {rest : List Nat} (job : s.panel.job = some j)
    (flight : j.inFlight = false) (unbuilt : j.built = none) (targets : j.targets = n :: rest)
    (inside : j.piece < j.op.pieces) (sent : (buildPiece s j.op (panelOf s n).window j.piece).isSome = true)
    (fuel : Nat) : settleJob (fuel + 1) s = s := by
  have walk : passOver s j.op j.targets j.piece j.clipped = (j.targets, j.piece, j.clipped) := by
    rw [targets, passOver_of_sent inside sent]
  simp only [settleJob, job, walk]
  rw [if_neg (by simp [flight, unbuilt]), if_neg (by simp [targets])]
  exact congrArg (fun x => s.setPanel { s.panel with job := x }) job.symm

/-- The clip rules touch neither a page nor a text (R162, R163). -/
theorem buildPiece_sent_of_code {op : PanelOp} (code : op.code = 0x70 ∨ op.code = 0x71) (s : State) (w : Window) :
    op.pieces = 1 ∧ (buildPiece s op w 0).isSome = true := by
  cases op with
  | page p => exact ⟨rfl, rfl⟩
  | text c l x => exact ⟨rfl, rfl⟩
  | tile k c x y => simp [PanelOp.code] at code
  | fill c x0 x1 y0 y1 b => simp [PanelOp.code] at code

/-- What an IDLE executor makes of an order it takes (R161, R165). -/
def taken (op : PanelOp) (T : Targets) (s : State) : State := settleJob 3 (startJob { op := op, targets := T } s)

theorem taken_arbiterFrame (op : PanelOp) (T : Targets) (s : State) : ArbiterFrame s (taken op T s) :=
  (setPanel_arbiterFrame s _).trans (settleJob_arbiterFrame 3 _)

theorem taken_panel (op : PanelOp) (T : Targets) (s : State) :
    ∃ job, (taken op T s).panel = { s.panel with staged := none, job := job } :=
  settleJob_panel (s := startJob { op := op, targets := T } s) rfl 3

theorem taken_without_targets {op : PanelOp} {T : Targets} {s : State} (gone : resolveTargets s T = []) :
    (taken op T s).panel.job = none ∧ (noticeAt (taken op T s) 11).pending = true ∧
      (noticeAt (taken op T s) 11).event = 1 ∧ (noticeAt (taken op T s) 11).value = op.code := by
  have complete : taken op T s = raise .panel 1 op.code _ :=
    settleJob_without_targets (s := startJob { op := op, targets := T } s) rfl rfl rfl rfl rfl gone 2
  have notice (t : State) : noticeAt (raise .panel 1 op.code t) 11 = _ := noticeAt_raise_self .panel 1 op.code t
  rw [complete, raise_panel_eq, notice]
  exact ⟨rfl, rfl, rfl, rfl⟩

theorem taken_of_code {op : PanelOp} {T : Targets} {s : State} (code : op.code = 0x70 ∨ op.code = 0x71)
    (named : resolveTargets s T ≠ []) : (taken op T s).panel.job =
      some { op := op, targets := resolveTargets s T, piece := 0, inFlight := false, misses := 0, clipped := false,
             built := none } := by
  obtain ⟨n, rest, targets⟩ := List.exists_cons_of_ne_nil named
  obtain ⟨single, sent⟩ := buildPiece_sent_of_code code (startJob { op := op, targets := T } s)
    (panelOf (startJob { op := op, targets := T } s) n).window
  have first : taken op T s = startJob { op := op, targets := T } s :=
    settleJob_of_sent rfl rfl rfl targets (by rw [single]; exact Nat.one_pos) sent 2
  rw [first]
  rfl

/-! ### The staging of a panel order (R161) -/

theorem stage_of_occupied {s : State} (occupied : s.panel.staged ≠ none) (op : PanelOp) (T : Targets) :
    stage op T s = refuse .busy s := if_pos (Option.isSome_iff_ne_none.mpr occupied)

theorem stage_of_running {s : State} {j : Job} (empty : s.panel.staged = none) (running : s.panel.job = some j)
    (op : PanelOp) (T : Targets) :
    stage op T s = done [] (s.setPanel { s.panel with staged := some { op := op, targets := T } }) := by
  simp [stage, empty, takeStaged, running]

theorem stage_of_idle {s : State} (empty : s.panel.staged = none) (idle : s.panel.job = none) (op : PanelOp)
    (T : Targets) : stage op T s = done [] (taken op T s) := by
  simp only [stage, empty, takeStaged, State.setPanel_panel, idle]
  rfl

theorem exec_panelPage (h : OrderHead) (p : Nat) (tg : TargetSet) (s : State) : exec (.panelPage h p tg) s =
    .next (runOrder (.panelPage h p tg) h 0x70 (panelPageOrder p tg) s) := rfl

theorem exec_panelText (h : OrderHead) (c l : Nat) (x : List Byte) (tg : TargetSet) (s : State) :
    exec (.panelText h c l x tg) s =
      .next (runOrder (.panelText h c l x tg) h 0x71 (panelTextOrder c l x tg) s) := rfl

theorem exec_panelTile (h : OrderHead) (k c x y : Nat) (tg : TargetSet) (s : State) :
    exec (.panelTile h k c x y tg) s =
      .next (runOrder (.panelTile h k c x y tg) h 0x72 (panelTileOrder k c x y tg) s) := rfl

theorem exec_panelFill (h : OrderHead) (c x0 x1 y0 y1 k : Nat) (tg : TargetSet) (s : State) :
    exec (.panelFill h c x0 x1 y0 y1 k tg) s =
      .next (runOrder (.panelFill h c x0 x1 y0 y1 k tg) h 0x73 (panelFillOrder c x0 x1 y0 y1 k tg) s) := rfl

/-! No target set, no panel order. -/

theorem panelPageOrder_untargeted {tg : TargetSet} (untargeted : targetsOf tg = none) (p : Nat) (s : State) :
    panelPageOrder p tg s = refuse .range s := by
  simp [panelPageOrder, untargeted]

theorem panelTextOrder_untargeted {tg : TargetSet} (untargeted : targetsOf tg = none) (c l : Nat) (x : List Byte)
    (s : State) : panelTextOrder c l x tg s = refuse .range s := by
  simp [panelTextOrder, untargeted]

theorem panelTileOrder_untargeted {tg : TargetSet} (untargeted : targetsOf tg = none) (k c x y : Nat) (s : State) :
    panelTileOrder k c x y tg s = refuse .range s := by
  simp [panelTileOrder, untargeted]

theorem panelFillOrder_untargeted {tg : TargetSet} (untargeted : targetsOf tg = none) (c x0 x1 y0 y1 k : Nat)
    (s : State) : panelFillOrder c x0 x1 y0 y1 k tg s = refuse .range s := by
  simp [panelFillOrder, untargeted]

theorem panelTileOrder_unloaded {tg : TargetSet} {k c x y : Nat} {s : State} (targets : targetsOf tg ≠ none)
    (canvas : canvasOf c ≠ none) (range : k ≤ 95 ∧ x ≤ 255 ∧ y ≤ 127)
    (unloaded : Bank.loaded (tileAt s k).front = false) : panelTileOrder k c x y tg s = refuse .state s := by
  obtain ⟨T, hT⟩ := Option.ne_none_iff_exists'.mp targets
  obtain ⟨v, hv⟩ := Option.ne_none_iff_exists'.mp canvas
  simp [panelTileOrder, hT, hv, range, unloaded]

/-- The carrying out of `i` is the staging of `op` for the targets `T`. -/
def Stages (i : Instr) (h : OrderHead) (op : PanelOp) (T : Targets) (s : State) : Prop :=
  ∃ owner, exec i s = .next (runOrder i h op.code owner s) ∧ owner s = stage op T s

theorem panelPage_stages {p : Nat} {g : Page} {tg : TargetSet} {T : Targets} (targets : targetsOf tg = some T)
    (page : pageOf p = some g) (h : OrderHead) (s : State) : Stages (.panelPage h p tg) h (.page g) T s :=
  ⟨_, exec_panelPage h p tg s, by simp [panelPageOrder, targets, page]⟩

theorem panelText_stages {c l : Nat} {v : Canvas} {x : List Byte} {tg : TargetSet} {T : Targets}
    (targets : targetsOf tg = some T) (canvas : canvasOf c = some v) (range : l ≤ 7 ∧ x.length ≤ 24) (h : OrderHead)
    (s : State) : Stages (.panelText h c l x tg) h (.text v l x) T s :=
  ⟨_, exec_panelText h c l x tg s, by simp [panelTextOrder, targets, canvas, range]⟩

theorem panelTile_stages {k c x y : Nat} {v : Canvas} {tg : TargetSet} {T : Targets} {s : State}
    (targets : targetsOf tg = some T) (canvas : canvasOf c = some v) (range : k ≤ 95 ∧ x ≤ 255 ∧ y ≤ 127)
    (loaded : Bank.loaded (tileAt s k).front = true) (h : OrderHead) :
    Stages (.panelTile h k c x y tg) h (.tile k v x y) T s :=
  ⟨_, exec_panelTile h k c x y tg s, by simp [panelTileOrder, targets, canvas, range, loaded]⟩

theorem panelFill_stages {c x0 x1 y0 y1 k : Nat} {v : Canvas} {b : Bool} {tg : TargetSet} {T : Targets}
    (targets : targetsOf tg = some T) (canvas : canvasOf c = some v) (colour : flagOf k = some b)
    (window : x0 ≤ x1 ∧ x1 ≤ 255 ∧ y0 ≤ y1 ∧ y1 ≤ 127) (h : OrderHead) (s : State) :
    Stages (.panelFill h c x0 x1 y0 y1 k tg) h (.fill v x0 x1 y0 y1 b) T s :=
  ⟨_, exec_panelFill h c x0 x1 y0 y1 k tg s, by
    simp [panelFillOrder, targets, canvas, colour, windowOk_iff.mpr window]⟩

theorem partsOf_panelOp (op : PanelOp) : partsOf op.code = 1 := by cases op <;> rfl

section
variable {i : Instr} {h : OrderHead} {op : PanelOp} {T : Targets} {s : State}

theorem Stages.exec_of_occupied (a : Stages i h op T s) (ready : Ready i s) (occupied : s.panel.staged ≠ none) :
    exec i s = .next (answered h op.code .busy [] s) := by
  obtain ⟨owner, runs, stages⟩ := a
  rw [runs, runOrder_refused ready h op.code (stages.trans (stage_of_occupied occupied op T))]

theorem Stages.exec_of_running (a : Stages i h op T s) (ready : Ready i s) {j : Job} (empty : s.panel.staged = none)
    (running : s.panel.job = some j) : exec i s = .next (answered h op.code .done []
      { s with panel := { s.panel with staged := some { op := op, targets := T } } }) := by
  obtain ⟨owner, runs, stages⟩ := a
  rw [runs, runOrder_done ready h op.code (stages.trans (stage_of_running empty running op T))]
  rfl

theorem Stages.exec_of_idle (a : Stages i h op T s) (ready : Ready i s) (empty : s.panel.staged = none)
    (idle : s.panel.job = none) : exec i s = .next (settle (withAnswer h op.code .done [] (taken op T s))) := by
  obtain ⟨owner, runs, stages⟩ := a
  rw [runs, runOrder_done ready h op.code (stages.trans (stage_of_idle empty idle op T))]
  rfl

end

theorem withAnswer_floorFrame (h : OrderHead) (code : Nat) (status : Status) (result : List Byte) (s : State) :
    FloorFrame s (withAnswer h code status result s) := by simp [FloorFrame, withAnswer]

/-- Settles O57: the refusals ahead of the staging, and then each order by the staging it comes to. -/
theorem panelOrdersStageAndStart : Obligations.PanelOrdersStageAndStart := by
  refine fun h tg s i code ready => ⟨fun untargeted which => ?_,
    fun k c x y tile targets canvas hk hx hy unloaded => ?_, fun T op targets which => ?_⟩
  · rcases which with ⟨p, rfl, rfl⟩ | ⟨c, l, x, rfl, rfl⟩ | ⟨k, c, x, y, rfl, rfl⟩ | ⟨c, x0, x1, y0, y1, k, rfl, rfl⟩
    · rw [exec_panelPage, runOrder_refused ready h 0x70 (panelPageOrder_untargeted untargeted p s)]
    · rw [exec_panelText, runOrder_refused ready h 0x71 (panelTextOrder_untargeted untargeted c l x s)]
    · rw [exec_panelTile, runOrder_refused ready h 0x72 (panelTileOrder_untargeted untargeted k c x y s)]
    · rw [exec_panelFill, runOrder_refused ready h 0x73 (panelFillOrder_untargeted untargeted c x0 x1 y0 y1 k s)]
  · subst tile
    rw [exec_panelTile,
      runOrder_refused ready h 0x72 (panelTileOrder_unloaded targets canvas ⟨hk, hx, hy⟩ unloaded)]
  · have staging : Stages i h op T s ∧ code = op.code := by
      rcases which with ⟨p, g, rfl, page, rfl, rfl⟩ | ⟨c, v, l, x, rfl, canvas, hl, hx, rfl, rfl⟩ |
        ⟨k, c, v, x, y, rfl, canvas, hk, hx, hy, loaded, rfl, rfl⟩ |
        ⟨c, v, x0, x1, y0, y1, k, b, rfl, canvas, colour, hx, hx1, hy, hy1, rfl, rfl⟩
      · exact ⟨panelPage_stages targets page h s, rfl⟩
      · exact ⟨panelText_stages targets canvas ⟨hl, hx⟩ h s, rfl⟩
      · exact ⟨panelTile_stages targets canvas ⟨hk, hx, hy⟩ loaded h, rfl⟩
      · exact ⟨panelFill_stages targets canvas colour ⟨hx, hx1, hy, hy1⟩ h s, rfl⟩
    obtain ⟨stages, rfl⟩ := staging
    refine ⟨stages.exec_of_occupied ready, fun j empty running => stages.exec_of_running ready empty running,
      fun empty idle => ?_⟩
    obtain ⟨job, panel⟩ := taken_panel op T s
    obtain ⟨frame, queue, chan, share, minutes, _⟩ := taken_arbiterFrame op T s
    refine ⟨withAnswer h op.code .done [] (taken op T s), stages.exec_of_idle ready empty idle,
      frame.trans (withAnswer_floorFrame h op.code .done [] _), chan, queue, share, minutes, ?_, ?_, ?_,
      taken_without_targets, taken_of_code, ?_⟩
    · exact (congrArg Panel.staged panel :)
    · exact (congrArg Panel.records panel :)
    · exact (congrArg Panel.tiles panel :)
    · simp [withAnswer, partsOf_panelOp]

end Sys2Proof.SeatPanels
end

section
/-! PROOFS. The minutes stream (chapter 9): the sequence numbers of the minutes queue under every step, and the orders
SET LOG MODE and SET LOG RANGE. What a record's admission and delivery do to the sequence comes first, then what leaves
the minutes unit alone, then each block's acts by the records they put to it; the step is assembled from them. -/

namespace Sys2Proof.MinutesStream

open Sys2Proof Sys2Proof.Machine Sys2Proof.MicrophoneChannels Sys2Proof.ContentShare

/-! ### The sequence of a minutes unit (R174) -/

/-- `MinutesSequence`, said of the minutes unit, the one block that it reads. -/
structure InSequence (m : Minutes) : Prop where
  next : m.nextSeq < 65536
  size : m.queue.length ≤ 32
  seqs : m.queue.map MinuteRecord.seq =
    (List.range m.queue.length).map fun i => (m.nextSeq + 65536 - m.queue.length + i) % 65536

theorem minutesSequence_iff {s : State} : MinutesSequence s ↔ InSequence s.minutes :=
  ⟨fun ⟨next, size, seqs⟩ => ⟨next, size, seqs⟩, fun h => ⟨h.next, h.size, h.seqs⟩⟩

/-- Ranges, drops, credits and the MINUTE in flight have no part in it. -/
theorem InSequence.of_records {m k : Minutes} (h : InSequence m) (queue : k.queue = m.queue)
    (nextSeq : k.nextSeq = m.nextSeq) : InSequence k :=
  ⟨nextSeq ▸ h.next, queue ▸ h.size, by rw [queue, nextSeq]; exact h.seqs⟩

theorem InSequence.of_eq {s t : State} (same : t.minutes = s.minutes) (h : InSequence s.minutes) :
    InSequence t.minutes := same ▸ h

theorem InSequence.ite {s t : State} {c : Prop} [Decidable c] (a : InSequence s.minutes) (b : InSequence t.minutes) :
    InSequence (if c then s else t).minutes := by
  split <;> assumption

theorem InSequence.foldl {α : Type} {f : State → α → State}
    (keeps : ∀ s x, InSequence s.minutes → InSequence (f s x).minutes) (l : List α) {s : State}
    (h : InSequence s.minutes) : InSequence (l.foldl f s).minutes := by
  induction l generalizing s with
  | nil => exact h
  | cons x l ih => exact ih (keeps s x h)

theorem inSequence_cleared : InSequence Minutes.cleared := ⟨by decide, by decide, rfl⟩

/-- A record at the tail takes the next sequence number, and the numbers before it are counted from one more (R174). -/
theorem InSequence.append {m k : Minutes} {r : MinuteRecord} (h : InSequence m) (room : m.queue.length < 32)
    (seq : r.seq = m.nextSeq) (queue : k.queue = m.queue ++ [r]) (nextSeq : k.nextSeq = (m.nextSeq + 1) % 65536) :
    InSequence k := by
  have next := h.next
  refine ⟨by omega, by simp [queue]; omega, ?_⟩
  rw [queue, nextSeq, List.map_append, List.length_append, List.length_singleton, List.range_succ, List.map_append,
    h.seqs]
  congr 1
  · refine List.map_congr_left fun i _ => ?_
    omega
  · simp only [List.map_cons, List.map_nil, List.cons.injEq, and_true]
    omega

/-- The head's departure leaves the numbers of the others, counted from one less (R174, R183). -/
theorem InSequence.tail {m k : Minutes} (h : InSequence m) (queue : k.queue = m.queue.tail)
    (nextSeq : k.nextSeq = m.nextSeq) : InSequence k := by
  obtain ⟨next, size, seqs⟩ := h
  cases head : m.queue with
  | nil => exact ⟨nextSeq ▸ next, by simp [queue, head], by simp [queue, head]⟩
  | cons r rest =>
      rw [head] at size seqs
      rw [List.length_cons] at size seqs
      rw [List.range_succ_eq_map, List.map_cons, List.map_cons, List.map_map] at seqs
      obtain ⟨-, others⟩ := List.cons.inj seqs
      refine ⟨nextSeq ▸ next, by simp [queue, head]; omega, ?_⟩
      rw [queue, nextSeq, head, List.tail_cons, others]
      refine List.map_congr_left fun i _ => ?_
      simp only [Function.comp_apply]
      omega

/-! ### Admission (R174 to R179) -/

theorem one_le_freeEntries_iff {s : State} : 1 ≤ freeEntries s ↔ s.minutes.queue.length < 32 := by
  simp only [freeEntries, Config.minutesSize]
  omega

/-- Every room test asks for a free entry beyond those taken away (R174, R176). -/
theorem freeEntries_of_roomFor {s : State} {k : RecKind} {less : Nat} (room : roomFor s k less = true) :
    1 + less ≤ freeEntries s := by
  unfold roomFor at room
  split at room
  · split at room <;> simp only [decide_eq_true_eq] at room <;> omega
  · simpa using room

theorem freeEntries_of_admitted {s : State} {k : RecKind} (room : admitted s k = true) : 1 ≤ freeEntries s := by
  unfold admitted at room
  split at room
  · simpa using room
  · simpa using room
  · exact freeEntries_of_roomFor room
  · exact freeEntries_of_roomFor room

theorem offerMinute_inSequence {s : State} (h : InSequence s.minutes) : InSequence (offerMinute s).minutes := by
  obtain ⟨queue, nextSeq⟩ := offerMinute_records s
  exact h.of_records queue nextSeq

/-- R174: an admission appends one record, under the next sequence. -/
theorem appendRecord_appends (r : RecRequest) (s : State) : ∃ x : MinuteRecord, x.seq = s.minutes.nextSeq ∧
    (appendRecord r s).minutes.queue = s.minutes.queue ++ [x] ∧
    (appendRecord r s).minutes.nextSeq = (s.minutes.nextSeq + 1) % 65536 := by
  obtain ⟨queue, nextSeq⟩ := offerMinute_records _
  exact ⟨_, rfl, queue, nextSeq⟩

theorem appendRecord_inSequence {s : State} (r : RecRequest) (room : 1 ≤ freeEntries s) (h : InSequence s.minutes) :
    InSequence (appendRecord r s).minutes := by
  obtain ⟨x, seq, queue, nextSeq⟩ := appendRecord_appends r s
  exact h.append (one_le_freeEntries_iff.mp room) seq queue nextSeq

/-- R179: a GAP that is fitted leaves the waiting record its entry. -/
theorem fitGap_inSequence {s : State} (k : RecKind) (room : 1 ≤ freeEntries s) (h : InSequence s.minutes) :
    InSequence (fitGap k s).minutes ∧ 1 ≤ freeEntries (fitGap k s) := by
  unfold fitGap
  split
  · rename_i fits
    obtain ⟨_, _, both⟩ := fits
    have two := freeEntries_of_roomFor both
    generalize hr : ({ kind := .gap, reason := .dropped, detail := some (.gap s.minutes.drop) } : RecRequest) = r
    obtain ⟨x, _, queue, _⟩ := appendRecord_appends r s
    refine ⟨(appendRecord_inSequence r room h).of_records rfl rfl, ?_⟩
    simp only [freeEntries, Config.minutesSize, State.setMinutes_minutes, queue, List.length_append,
      List.length_singleton] at two ⊢
    omega
  · exact ⟨h, room⟩

theorem dropRecord_inSequence {s : State} (k : RecKind) (h : InSequence s.minutes) :
    InSequence (dropRecord k s).minutes := by
  have counted : InSequence (s.setMinutes { s.minutes with drop := bump 65535 s.minutes.drop }).minutes :=
    h.of_records rfl rfl
  exact .ite (counted.of_eq (raise_share_minutes _ _ _ _).2) counted

/-- Whatever becomes of a record that is put to the minutes unit, the numbers run on. -/
theorem admitRecord_inSequence {s : State} (r : RecRequest) (h : InSequence s.minutes) :
    InSequence (admitRecord r s).minutes := by
  unfold admitRecord
  split
  · exact h
  · split
    · rename_i room
      obtain ⟨fitted, left⟩ := fitGap_inSequence r.kind (freeEntries_of_admitted room) h
      exact appendRecord_inSequence r left fitted
    · exact dropRecord_inSequence r.kind h

/-! ### What leaves the minutes unit alone -/

theorem minutes_of_arbiterFrame {s t : State} (a : ArbiterFrame s t) : t.minutes = s.minutes := by
  obtain ⟨_, _, _, _, minutes, _⟩ := a
  exact minutes

theorem foldl_minutes {α : Type} {f : State → α → State} (same : ∀ s x, (f s x).minutes = s.minutes)
    (l : List α) (s : State) : (l.foldl f s).minutes = s.minutes := by
  induction l generalizing s with
  | nil => rfl
  | cons x l ih => exact (ih _).trans (same s x)

theorem ite_minutes {s t : State} {m : Minutes} {c : Prop} [Decidable c] (a : s.minutes = m) (b : t.minutes = m) :
    (if c then s else t).minutes = m := by
  split <;> assumption

/-! Offers, notices and marks. -/

@[simp] theorem offerMark_minutes (m : Mark) (s : State) : (offerMark m s).minutes = s.minutes :=
  (offerMark_share_minutes m s).2

@[simp] theorem offer3_minutes (c : StationCell) (s : State) : (offer3 c s).minutes = s.minutes := rfl

@[simp] theorem offerAlert_minutes (s : State) : (offerAlert s).minutes = s.minutes :=
  minutes_of_arbiterFrame (offerAlert_arbiterFrame s)

@[simp] theorem setNotice_minutes (n : Nat) (x : Notice) (s : State) : (setNotice n x s).minutes = s.minutes :=
  ite_minutes rfl rfl

@[simp] theorem raise_minutes (c : Cause) (event value : Nat) (s : State) :
    (raise c event value s).minutes = s.minutes := (raise_share_minutes c event value s).2

@[simp] theorem setStation_minutes (n : Nat) (r : Station) (s : State) : (setStation n r s).minutes = s.minutes :=
  ite_minutes rfl rfl

@[simp] theorem setPanelOf_minutes (n : Nat) (r : PanelRecord) (s : State) : (setPanelOf n r s).minutes = s.minutes :=
  minutes_of_arbiterFrame (setPanelOf_arbiterFrame n r s)

@[simp] theorem markLamp_minutes (n : Nat) (s : State) : (markLamp n s).minutes = s.minutes := setPanelOf_minutes n _ s

@[simp] theorem markLists_minutes (pages : List Page) (s : State) : (markLists pages s).minutes = s.minutes := rfl

/-- What an open and a close of a microphone end with, their record being admitted before it (R97, R99). -/
theorem announceMic_minutes (n : Nat) (s : State) :
    (markLists [.speakers] (markLamp n (offerMark (.mic n) s))).minutes = s.minutes :=
  (markLamp_minutes n _).trans (offerMark_minutes _ s)

@[simp] theorem flash_minutes (n : Nat) (s : State) : (flash n s).minutes = s.minutes :=
  ite_minutes (setPanelOf_minutes n _ s) rfl

@[simp] theorem drawTime_minutes (x : Int) (s : State) : (drawTime x s).2.minutes = s.minutes := by
  unfold drawTime
  split <;> rfl

/-! The panel engine. -/

@[simp] theorem settle_minutes (s : State) : (settle s).minutes = s.minutes :=
  minutes_of_arbiterFrame (settle_arbiterFrame s)

@[simp] theorem offerPresentation_minutes (s : State) : (offerPresentation s).minutes = s.minutes :=
  minutes_of_arbiterFrame (offerPresentation_arbiterFrame s)

@[simp] theorem settleJob_minutes (fuel : Nat) (s : State) : (settleJob fuel s).minutes = s.minutes :=
  minutes_of_arbiterFrame (settleJob_arbiterFrame fuel s)

@[simp] theorem takeStaged_minutes (s : State) : (takeStaged s).minutes = s.minutes := by
  unfold takeStaged
  split
  · exact settleJob_minutes 3 _
  · rfl

@[simp] theorem disownPiece_minutes (s : State) : (disownPiece s).minutes = s.minutes := by
  unfold disownPiece
  split <;> rfl

@[simp] theorem dropTo_minutes (j : Job) (s : State) : (dropTo j s).minutes = s.minutes :=
  ite_minutes (settleJob_minutes 3 _) rfl

@[simp] theorem dropTarget_minutes (n : Nat) (s : State) : (dropTarget n s).minutes = s.minutes := by
  unfold dropTarget
  split
  · rfl
  · exact ite_minutes (ite_minutes (by simp) (by simp)) rfl

@[simp] theorem panelDepart_minutes (n : Nat) (s : State) : (panelDepart n s).minutes = s.minutes := by
  simp [panelDepart]

@[simp] theorem panelPresent_minutes (n : Nat) (s : State) : (panelPresent n s).minutes = s.minutes :=
  ite_minutes (setPanelOf_minutes n _ s) rfl

@[simp] theorem panelSessionStart_minutes (s : State) : (panelSessionStart s).minutes = s.minutes :=
  foldl_minutes (fun t n => ite_minutes (setPanelOf_minutes n _ t) rfl) _ s

@[simp] theorem panelSessionEnd_minutes (s : State) : (panelSessionEnd s).minutes = s.minutes := rfl

@[simp] theorem pieceOutcome_minutes (n : Nat) (consumed : Bool) (s : State) :
    (pieceOutcome n consumed s).minutes = s.minutes := by
  unfold pieceOutcome
  split
  · rfl
  · exact ite_minutes (ite_minutes (settleJob_minutes 3 _) (ite_minutes (dropTarget_minutes n s) rfl)) rfl

@[simp] theorem writeWindow_minutes (w : Window) (seats : List Nat) (s : State) :
    (writeWindow w seats s).minutes = s.minutes :=
  foldl_minutes (fun t n => setPanelOf_minutes n _ t) seats s

/-! The floor, the lane and the session. -/

@[simp] theorem leaveWaiting_minutes (n : Nat) (s : State) : (leaveWaiting n s).minutes = s.minutes := rfl

@[simp] theorem shareMicOpened_minutes (n : Nat) (s : State) : (shareMicOpened n s).minutes = s.minutes :=
  ite_minutes rfl rfl

@[simp] theorem gradeFarFlag_minutes (g : Nat) (s : State) : (gradeFarFlag g s).minutes = s.minutes := by
  unfold gradeFarFlag
  split
  · rfl
  · exact ite_minutes (offerMark_minutes _ _) rfl

@[simp] theorem queueLeave_minutes (n : Nat) (s : State) : (queueLeave n s).minutes = s.minutes := by
  unfold queueLeave
  simp only [markLists_minutes]
  split
  · exact markLamp_minutes _ _
  · rfl

@[simp] theorem suppressAll_minutes (on : Bool) (s : State) : (suppressAll on s).minutes = s.minutes :=
  ite_minutes rfl (foldl_minutes (fun t _ => markLamp_minutes _ t) _ _)

@[simp] theorem tickTimers_minutes (s : State) : (tickTimers s).minutes = s.minutes :=
  foldl_minutes (fun t _ => markLamp_minutes _ t) _ _

@[simp] theorem removeLive_minutes (s : State) : (removeLive s).minutes = s.minutes := rfl

@[simp] theorem retestCadence_minutes (s : State) : (retestCadence s).minutes = s.minutes := rfl

@[simp] theorem startCadenceTimer_minutes (s : State) : (startCadenceTimer s).minutes = s.minutes := rfl

@[simp] theorem checkWarning_minutes (s : State) : (checkWarning s).minutes = s.minutes := by
  unfold checkWarning
  split
  · rfl
  · exact ite_minutes (by simp [warnSession]) rfl

/-! The station unit and the ring unit. -/

@[simp] theorem noticePresence_minutes (n : Nat) (s : State) : (noticePresence n s).minutes = s.minutes :=
  raise_minutes _ _ _ s

@[simp] theorem stationGood_minutes (n : Nat) (s : State) : (stationGood n s).minutes = s.minutes := by
  unfold stationGood
  dsimp only
  split
  · exact setStation_minutes _ _ s
  · exact setStation_minutes _ _ s
  · exact setStation_minutes _ _ s
  · rfl
  · rfl
  · rfl

@[simp] theorem shortCheck_minutes (live : Bool) (s : State) : (shortCheck live s).minutes = s.minutes :=
  ite_minutes (raise_minutes _ _ _ _) rfl

@[simp] theorem probeOver_minutes (cell : Option OutCell) (s : State) : (probeOver cell s).minutes = s.minutes := by
  unfold probeOver
  split
  · unfold probeBack
    split
    · rfl
    · exact shortCheck_minutes _ _
  · rfl

@[simp] theorem probeRound_minutes (s : State) : (probeRound s).minutes = s.minutes := by
  have assigned (t : State) : (if t.sched.class3.contains .assign then t else offer3 .assign t).minutes = t.minutes :=
    ite_minutes rfl rfl
  have probed (ns : List Nat) (t : State) : (ns.foldl (fun u n => offer3 (.probe n) u) t).minutes = t.minutes :=
    foldl_minutes (fun u n => offer3_minutes _ u) ns t
  exact ite_minutes ((shortCheck_minutes _ _).trans ((probed _ _).trans (assigned _))) ((probed _ _).trans (assigned _))

@[simp] theorem formFor_minutes (cadence : Cadence) (x : Slots) (s : State) :
    (formFor cadence x s).minutes = s.minutes := by
  cases cadence <;> rfl

@[simp] theorem restoreRing_minutes (s : State) : (restoreRing s).minutes = s.minutes :=
  ite_minutes (raise_minutes _ _ _ _) rfl

@[simp] theorem silenceAll_minutes (ns : List Nat) (s : State) : (silenceAll ns s).minutes = s.minutes :=
  foldl_minutes (fun t n => setStation_minutes n _ t) ns s

@[simp] theorem stationPlaced_minutes (c : StationCell) (s : State) : (stationPlaced c s).minutes = s.minutes := by
  unfold stationPlaced
  split
  · exact ite_minutes (setStation_minutes _ _ s) rfl
  · rfl

/-- R5: a placement in class 4 empties a place of the scheduler; a MINUTE's record stays in the minutes queue (R174). -/
theorem placeClass4_minutes (s : State) : (placeClass4 s).2.minutes = s.minutes := by
  unfold placeClass4
  split
  · rfl
  · rfl
  · rfl
  · split <;> rfl

/-- R4: no placement touches the minutes unit. -/
@[simp] theorem placeCell_minutes (s : State) : (placeCell s).2.minutes = s.minutes := by
  unfold placeCell
  split
  · unfold placeClass2
    split
    · unfold placeClass3
      split
      · exact placeClass4_minutes s
      · exact stationPlaced_minutes _ _
    · rfl
    · rfl
  · rfl

@[simp] theorem emitFrame_minutes (s : State) : (emitFrame s).minutes = s.minutes :=
  ite_minutes (offerPresentation_minutes s) ((placeCell_minutes _).trans (offerPresentation_minutes s))

@[simp] theorem answerBack_minutes (a : Answer) (s : State) : (answerBack a s).minutes = s.minutes :=
  ite_minutes rfl rfl

/-! The sample clock and the order unit. -/

@[simp] theorem externalLost_minutes (s : State) : (externalLost s).minutes = s.minutes := by
  unfold externalLost
  split
  · exact raise_minutes _ _ _ _
  · rfl

@[simp] theorem selectClock_minutes (x : ClockSource) (s : State) : (selectClock x s).minutes = s.minutes := by
  unfold selectClock
  split
  · exact ite_minutes rfl (ite_minutes rfl (raise_minutes _ _ _ _))
  · rfl
  · rfl
  · rfl

@[simp] theorem arriveBody_minutes (source tag : Nat) (body : List Byte) (s : State) :
    (arriveBody source tag body s).minutes = s.minutes := by
  unfold arriveBody
  dsimp only
  split <;> rfl

@[simp] theorem arriveOrder_minutes (i : Instr) (h : OrderHead) (code : Nat) (s : State) :
    (arriveOrder i h code s).minutes = s.minutes := by
  unfold arriveOrder
  dsimp only
  split <;> rfl

/-! ### The lane, the channels and the request queue -/

section
variable {s : State}

theorem grantLane_inSequence (n : Nat) (cause : Reason) (h : InSequence s.minutes) :
    InSequence (grantLane n cause s).minutes :=
  .of_eq (announceLane_minutes n _) (admitRecord_inSequence _ h)

theorem handoverGo_inSequence (l : List Nat) (h : InSequence s.minutes) : InSequence (handoverGo l s).minutes := by
  induction l generalizing s with
  | nil => exact h
  | cons n l ih =>
      unfold handoverGo
      exact .ite (ih h) (.ite (grantLane_inSequence n _ h) (.ite h (h.of_eq (raise_minutes _ _ _ _))))

theorem handover_inSequence (h : InSequence s.minutes) : InSequence (handover s).minutes :=
  .ite (handoverGo_inSequence _ h) h

theorem endShareOnly_inSequence (reason : Reason) (h : InSequence s.minutes) :
    InSequence (endShareOnly reason s).minutes := by
  cases held : s.share.holder with
  | none => exact h.of_eq (congrArg State.minutes (endShareOnly_of_free held reason))
  | some x => exact (admitRecord_inSequence _ h).of_eq (endShareOnly_minutes held reason)

theorem endShare_inSequence (reason : Reason) (h : InSequence s.minutes) : InSequence (endShare reason s).minutes := by
  unfold endShare
  split
  · exact h
  · exact handover_inSequence (endShareOnly_inSequence reason h)

theorem startGrace_inSequence (h : InSequence s.minutes) : InSequence (startGrace s).minutes := by
  unfold startGrace
  split
  · exact .ite (endShare_inSequence _ h) h
  · exact h

theorem shareMicClosed_inSequence (n : Nat) (h : InSequence s.minutes) : InSequence (shareMicClosed n s).minutes :=
  .ite (startGrace_inSequence h) h

theorem shareLeave_inSequence (n : Nat) (reason : Reason) (h : InSequence s.minutes) :
    InSequence (shareLeave n reason s).minutes :=
  .of_eq (leaveWaiting_minutes n _) (.ite (endShare_inSequence reason h) h)

theorem sharePlanCheck_inSequence (h : InSequence s.minutes) : InSequence (sharePlanCheck s).minutes := by
  unfold sharePlanCheck
  split
  · exact h
  · exact .ite (endShare_inSequence _ h) (.ite h (.ite (startGrace_inSequence h) h))

theorem shareGrantTake_inSequence (n : Nat) (h : InSequence s.minutes) : InSequence (shareGrantTake n s).minutes :=
  grantLane_inSequence n _ (endShareOnly_inSequence _ h)

/-- R97: an open puts a MIC OPEN to the minutes unit and nothing besides. -/
theorem openMic_inSequence (n : Nat) (cat : Category) (cause : Reason) (h : InSequence s.minutes) :
    InSequence (openMic n cat cause s).minutes := by
  unfold openMic
  split
  · have left (t : State) (ht : t.minutes = s.minutes) :
        InSequence (if t.queue.contains n then queueLeave n t else t).minutes :=
      h.of_eq (ite_minutes ((queueLeave_minutes n t).trans ht) ht)
    exact .of_eq ((shareMicOpened_minutes n _).trans (announceMic_minutes n _)) (admitRecord_inSequence _ (left _ rfl))
  · exact h

theorem tryOpen_inSequence (n : Nat) (cat : Category) (cause : Reason) (h : InSequence s.minutes) :
    InSequence (tryOpen n cat cause s).2.minutes := by
  unfold tryOpen
  split
  · exact openMic_inSequence n cat cause h
  · exact h

/-- R99: a close puts a MIC CLOSE to the minutes unit and nothing besides. -/
theorem closeEntry_inSequence (n : Nat) (reason : Reason) (h : InSequence s.minutes) :
    InSequence (closeEntry n reason s).minutes := by
  unfold closeEntry
  split
  · exact h
  · split
    · exact h
    · exact .of_eq (announceMic_minutes n _) (admitRecord_inSequence _ h)

theorem closeMicOnly_inSequence (n : Nat) (reason : Reason) (h : InSequence s.minutes) :
    InSequence (closeMicOnly n reason s).minutes := by
  unfold closeMicOnly
  split
  · exact h
  · exact shareMicClosed_inSequence n (closeEntry_inSequence n reason h)

theorem autoOpenGo_inSequence (fuel : Nat) (h : InSequence s.minutes) : InSequence (autoOpenGo fuel s).minutes := by
  induction fuel generalizing s with
  | zero => exact h
  | succ fuel ih =>
      unfold autoOpenGo
      split
      · exact h
      · exact .ite h (.ite (ih (openMic_inSequence _ _ _ h)) (.ite h (h.of_eq (raise_minutes _ _ _ _))))

theorem autoOpen_inSequence (h : InSequence s.minutes) : InSequence (autoOpen s).minutes :=
  .ite (autoOpenGo_inSequence _ h) h

theorem closeMic_inSequence (n : Nat) (reason : Reason) (h : InSequence s.minutes) :
    InSequence (closeMic n reason s).minutes := by
  unfold closeMic
  split
  · exact h
  · exact autoOpen_inSequence (closeMicOnly_inSequence n reason h)

theorem replaceMic_inSequence (n : Nat) (closing opening : Reason) (h : InSequence s.minutes) :
    InSequence (replaceMic n closing opening s).2.minutes := by
  unfold replaceMic
  split
  · split
    · exact .ite (shareMicClosed_inSequence _ (openMic_inSequence n _ _ (closeEntry_inSequence _ _ h)))
        (openMic_inSequence n _ _ (closeMicOnly_inSequence _ _ h))
    · exact h
  · exact h

theorem releasePriority_inSequence (n : Nat) (h : InSequence s.minutes) :
    InSequence (releasePriority n s).minutes := by
  unfold releasePriority
  exact .ite (.ite (autoOpen_inSequence (h.of_eq (suppressAll_minutes _ _))) h) h

theorem closeForPriority_inSequence (h : InSequence s.minutes) : InSequence (closeForPriority s).minutes :=
  .foldl (fun _ _ => closeMic_inSequence _ _) _ h

theorem channelsSessionEnd_inSequence (h : InSequence s.minutes) : InSequence (channelsSessionEnd s).minutes := by
  have closed (l : List Channel) (t : State) (ht : t.minutes = s.minutes) :
      InSequence (l.foldl (fun u e => closeMicOnly e.seat .session u) t).minutes :=
    .foldl (fun _ _ => closeMicOnly_inSequence _ _) l (h.of_eq ht)
  exact closed _ _ (suppressAll_minutes _ _)

theorem speakLimitReached_inSequence (n : Nat) (h : InSequence s.minutes) :
    InSequence (speakLimitReached n s).minutes := by
  unfold speakLimitReached
  split
  · exact h
  · split
    · exact h
    · split
      · exact h
      · split
        · split
          · exact closeMic_inSequence n _ h
          · exact h.of_eq (raise_minutes _ _ _ _)
        · exact h

theorem withdrawOnly_inSequence (n : Nat) (reason : Reason) (h : InSequence s.minutes) :
    InSequence (withdrawOnly n reason s).minutes :=
  .of_eq (markLamp_minutes n _) (admitRecord_inSequence _ (h.of_eq (queueLeave_minutes n s)))

theorem withdraw_inSequence (n : Nat) (reason : Reason) (h : InSequence s.minutes) :
    InSequence (withdraw n reason s).minutes := by
  have left := withdrawOnly_inSequence n reason h
  exact .ite (.ite (autoOpen_inSequence left) left) h

theorem joinQueue_inSequence (n position : Nat) (cause : Reason) (h : InSequence s.minutes) :
    InSequence (joinQueue n position cause s).minutes := by
  unfold joinQueue
  refine .of_eq (markLists_minutes _ _) ?_
  have joined : InSequence (markLamp n (admitRecord { kind := .request, seat := some n, reason := cause }
      (s.setQueue (s.queue.insertIdx (position - 1) n)))).minutes :=
    .of_eq (markLamp_minutes n _) (admitRecord_inSequence _ h)
  split
  · exact .of_eq (markLamp_minutes _ _) joined
  · exact joined

/-! ### Keys (R75 to R85, R113, R142) -/

theorem appendSeat_inSequence (n : Nat) (h : InSequence s.minutes) : InSequence (appendSeat n s).minutes :=
  .ite (h.of_eq (by simp)) (autoOpen_inSequence (joinQueue_inSequence n _ _ h))

theorem flash_inSequence (n : Nat) (h : InSequence s.minutes) : InSequence (flash n s).minutes :=
  h.of_eq (flash_minutes n s)

theorem orFlash_inSequence (n : Nat) {r : Bool × State} (h : InSequence r.2.minutes) :
    InSequence (orFlash n r).minutes :=
  .ite h (flash_inSequence n h)

theorem keyShare_inSequence (n : Nat) (h : InSequence s.minutes) : InSequence (keyShare n s).minutes := by
  have flashed := flash_inSequence n h
  unfold keyShare
  exact .ite (endShare_inSequence _ h) (.ite h (.ite flashed
    (.ite (.ite (grantLane_inSequence n _ h) (flashed.of_eq (raise_minutes _ _ _ _))) (.ite flashed h))))

theorem keyPriorityDown_inSequence (n : Nat) (h : InSequence s.minutes) :
    InSequence (keyPriorityDown n s).minutes := by
  have chair (t : State) (ht : InSequence t.minutes) : InSequence (if micOpen t n then t else
      match tryOpen n .chair .priority t with
      | (true, u) => u
      | (false, u) => flash n u).minutes := by
    have opened := tryOpen_inSequence n .chair .priority ht
    refine .ite ht ?_
    split
    · rename_i e
      rwa [e] at opened
    · rename_i e
      rw [e] at opened
      exact flash_inSequence n opened
  unfold keyPriorityDown
  split
  · exact h
  · refine .ite h (chair _ (.ite ?_ h))
    split
    · exact h.of_eq (suppressAll_minutes _ _)
    · exact closeForPriority_inSequence h

theorem requestFree_inSequence (n : Nat) (p : Profile) (h : InSequence s.minutes) :
    InSequence (requestFree n p s).minutes := by
  have queued := appendSeat_inSequence n h
  unfold requestFree
  refine .ite (.ite queued (orFlash_inSequence n (tryOpen_inSequence n _ _ h))) ?_
  split
  · exact flash_inSequence n h
  · exact orFlash_inSequence n (replaceMic_inSequence n _ _ h)
  · exact queued

theorem requestDelegate_inSequence (n : Nat) (p : Profile) (h : InSequence s.minutes) :
    InSequence (requestDelegate n p s).minutes := by
  unfold requestDelegate
  refine .ite (flash_inSequence n h) (.ite (closeMic_inSequence n _ h) (.ite (withdraw_inSequence n _ h) ?_))
  split
  · exact appendSeat_inSequence n h
  · exact appendSeat_inSequence n h
  · exact requestFree_inSequence n p h

theorem requestChair_inSequence (n : Nat) (h : InSequence s.minutes) : InSequence (requestChair n s).minutes :=
  .ite (closeMic_inSequence n _ h) (orFlash_inSequence n (tryOpen_inSequence n _ _ h))

theorem requestLive_inSequence (n : Nat) (h : InSequence s.minutes) : InSequence (requestLive n s).minutes := by
  unfold requestLive
  split
  · exact h
  · exact .ite (requestChair_inSequence n h) (requestDelegate_inSequence n _ h)

theorem keyNext_inSequence (n : Nat) (h : InSequence s.minutes) : InSequence (keyNext n s).minutes := by
  unfold keyNext
  split
  · exact h
  · split
    · split
      · exact flash_inSequence n h
      · exact .ite (orFlash_inSequence n (tryOpen_inSequence _ _ _ h))
          (orFlash_inSequence n (replaceMic_inSequence _ _ _ h))
    · split
      · exact flash_inSequence n h
      · exact closeMic_inSequence _ _ h

end

/-! ### Sessions (R45 to R48, R52 to R68) -/

section
variable {s : State}

theorem startSession_inSequence (cause : Reason) (resumed : Bool) (h : InSequence s.minutes) :
    InSequence (startSession cause resumed s).minutes := by
  unfold startSession
  split
  · exact h
  · rename_i b _
    have drawn := drawTime_minutes ((b.endAt : Int) - (b.profile.endLead * 60 : Nat)) s
    generalize drawTime _ s = x at drawn ⊢
    obtain ⟨warnAt, u⟩ := x
    have noticed (t : State) (n : Nat) : (if decide (b.profile.minutesMode = .strict) && decide (freeEntries u < 2)
        then raise .session 6 n t else t).minutes = t.minutes := ite_minutes (raise_minutes _ _ _ t) rfl
    have shown (t : State) : (retestCadence (panelSessionStart t)).minutes = t.minutes := by simp
    exact .of_eq (checkWarning_minutes _) (.of_eq (noticed _ _) (.of_eq (raise_minutes _ _ _ _)
      (.of_eq (shown _) (admitRecord_inSequence _ (h.of_eq drawn)))))

theorem startDetection_inSequence (h : InSequence s.minutes) : InSequence (startDetection s).minutes := by
  unfold startDetection
  split
  · exact h
  · exact .ite (startSession_inSequence _ _ h) h

/-- R58: the lane's and the microphones' records, then the SESSION END, then the records of a start that follows. -/
theorem endSession_inSequence (reason : Reason) (h : InSequence s.minutes) :
    InSequence (endSession reason s).minutes := by
  unfold endSession
  split
  · exact h
  · rename_i c _
    have shared : InSequence (shareSessionEnd (s.setCtx (some { c with phase := .ending }))).minutes :=
      endShareOnly_inSequence (s := s.setCtx _) .session h
    have channels := channelsSessionEnd_inSequence shared
    have settled (t : State) : (retestCadence ((raise .session 4 c.id (startCadenceTimer (panelSessionEnd
        (removeLive t)))).setCtx none)).minutes = t.minutes := by simp
    dsimp only
    generalize channelsSessionEnd _ = u at channels ⊢
    exact startDetection_inSequence (.of_eq (settled _) (admitRecord_inSequence _ channels))

theorem endDetection_inSequence (h : InSequence s.minutes) : InSequence (endDetection s).minutes := by
  unfold endDetection
  split
  · exact h
  · exact .ite (endSession_inSequence _ h) h

theorem requestExtension_inSequence (cause : Reason) (h : InSequence s.minutes) :
    InSequence (requestExtension cause s).2.minutes := by
  unfold requestExtension
  split
  · rename_i c b _ _
    split
    · exact h
    · dsimp only
      split
      · exact h
      · split
        · exact h
        · refine .of_eq (raise_minutes _ _ _ _) (.of_eq (ite_minutes rfl rfl) (.of_eq (drawTime_minutes _ _) ?_))
          exact admitRecord_inSequence _ (h.of_eq (drawTime_minutes _ s))
  · exact h

theorem keyExtend_inSequence (n : Nat) (h : InSequence s.minutes) : InSequence (keyExtend n s).minutes := by
  have extended := requestExtension_inSequence .chair h
  unfold keyExtend
  split
  · rename_i e
    rwa [e] at extended
  · rename_i e
    rw [e] at extended
    exact flash_inSequence n extended

theorem startWalkIn_inSequence (cause : Reason) (h : InSequence s.minutes) :
    InSequence (startWalkIn cause s).2.minutes := by
  unfold startWalkIn
  dsimp only
  split
  · exact h
  · split
    · exact h
    · split
      · exact h
      · exact startSession_inSequence _ _ (h.of_eq (drawTime_minutes _ s))

theorem requestWalkIn_inSequence (n : Nat) (h : InSequence s.minutes) : InSequence (requestWalkIn n s).minutes := by
  have started := startWalkIn_inSequence .self h
  unfold requestWalkIn
  refine .ite ?_ (flash_inSequence n h)
  split
  · rename_i e
    rw [e] at started
    exact requestLive_inSequence n started
  · rename_i e
    rw [e] at started
    exact flash_inSequence n started

theorem reconcileGo_inSequence (now : Nat) (l : List Booking) (h : InSequence s.minutes) :
    InSequence (reconcileGo now l s).minutes := by
  induction l generalizing s with
  | nil => exact h
  | cons b rest ih =>
      have passed : InSequence (setBookings rest s).minutes := h
      unfold reconcileGo
      refine .ite (ih (.ite (.of_eq (raise_minutes _ _ _ _) (admitRecord_inSequence _ passed)) ?_))
        (.ite (.ite (startSession_inSequence _ _ h) (startSession_inSequence _ _ h)) h)
      exact passed.of_eq (raise_minutes _ _ _ _)

theorem reconcile_inSequence (h : InSequence s.minutes) : InSequence (reconcile s).minutes :=
  reconcileGo_inSequence _ _ h

theorem planLeave_inSequence (n : Nat) (h : InSequence s.minutes) : InSequence (planLeave n s).minutes :=
  releasePriority_inSequence n
    (withdraw_inSequence n _ (closeMic_inSequence n _ (shareLeave_inSequence n _ h)))

theorem closeChanged_inSequence (k : Nat) (h : InSequence s.minutes) : InSequence (closeChanged k s).minutes := by
  unfold closeChanged
  split
  · exact h
  · exact .ite h (closeMic_inSequence _ _ h)

theorem switchActivePlan_inSequence (p : Nat) (h : InSequence s.minutes) :
    InSequence (switchActivePlan p s).minutes := by
  unfold switchActivePlan
  split
  · exact h
  · refine sharePlanCheck_inSequence (.foldl (fun _ _ => withdraw_inSequence _ _) _ (.foldl (fun _ _ hu => ?_) _
      (.foldl (fun _ _ => closeChanged_inSequence _) _ (.foldl (fun _ _ hu => ?_) _
        (.foldl (fun _ _ hu => ?_) _ h)))))
    · exact .ite hu (releasePriority_inSequence _ hu)
    · exact .ite (planLeave_inSequence _ hu) hu
    · exact .ite (hu.of_eq (markLamp_minutes _ _)) hu

theorem lowerTo_inSequence (limit fuel : Nat) (h : InSequence s.minutes) :
    InSequence (lowerTo limit fuel s).minutes := by
  induction fuel generalizing s with
  | zero => exact h
  | succ fuel ih =>
      unfold lowerTo
      refine .ite ?_ h
      split
      · exact h
      · exact ih (closeMic_inSequence _ _ h)

theorem afterAdjust_inSequence (c : Session) (p : Profile) (field : Nat) (h : InSequence s.minutes) :
    InSequence (afterAdjust c p field s).minutes := by
  unfold afterAdjust
  split
  · exact autoOpen_inSequence h
  · exact .ite (autoOpen_inSequence h) (lowerTo_inSequence _ _ h)
  · exact .ite h (autoOpen_inSequence h)
  · have drawn := h.of_eq (drawTime_minutes ((c.endAt : Int) - (p.endLead * 60 : Nat)) s)
    unfold newWarning
    dsimp only
    split <;> exact drawn
  · exact h

theorem takeGrade_inSequence (c : Session) (g : Nat) (h : InSequence s.minutes) :
    InSequence (takeGrade c g s).minutes :=
  .of_eq (markLists_minutes _ _) (.of_eq (gradeFarFlag_minutes g _) (admitRecord_inSequence _ h))

/-! ### Stations and keys (R7, R13 to R18, R75, R184) -/

theorem depart_inSequence (n : Nat) (h : InSequence s.minutes) : InSequence (depart n s).minutes :=
  .ite (releasePriority_inSequence n (.of_eq (panelDepart_minutes n _)
      (withdraw_inSequence n _ (closeMic_inSequence n _ (shareLeave_inSequence n _ h)))))
    (.ite (h.of_records rfl rfl) h)

theorem becamePresent_inSequence (n : Nat) (h : InSequence s.minutes) : InSequence (becamePresent n s).minutes := by
  have noticed : InSequence (noticePresence n (panelPresent n s)).minutes := h.of_eq (by simp)
  exact .ite (noticed.of_eq (offerAlert_minutes _)) (.ite (offerMinute_inSequence noticed)
    (.ite (noticed.of_eq (offerMark_minutes _ _)) noticed))

theorem stationMiss_inSequence (n : Nat) (h : InSequence s.minutes) : InSequence (stationMiss n s).minutes := by
  have stored (r : Station) : InSequence (setStation n r s).minutes := h.of_eq (setStation_minutes n r s)
  have silenced (r : Station) : InSequence (noticePresence n (setStation n r s)).minutes :=
    (stored r).of_eq (noticePresence_minutes n _)
  unfold stationMiss
  dsimp only
  split
  · exact .ite (silenced _) (stored _)
  · exact .ite (depart_inSequence n (silenced _)) (stored _)
  · exact stored _
  · exact h
  · exact h
  · exact h

theorem stationEcho_inSequence (n : Nat) (e : EchoStatus) (h : InSequence s.minutes) :
    InSequence (stationEcho n e s).minutes := by
  have stored (r : Station) : InSequence (setStation n r s).minutes := h.of_eq (setStation_minutes n r s)
  have marked {t : State} (ht : InSequence t.minutes) :
      InSequence (if isSeat n && (e.mic != micOpen t n) then offerMark (.mic n) t else t).minutes :=
    .ite (ht.of_eq (offerMark_minutes _ t)) ht
  unfold stationEcho
  dsimp only
  split
  · exact marked (becamePresent_inSequence n (stored _))
  · exact marked (becamePresent_inSequence n (stored _))
  · exact marked (stored _)
  · exact h
  · exact h
  · exact h

theorem joinTaken_inSequence (n : Nat) (id : Identity) (caps : Caps) (h : InSequence s.minutes) :
    InSequence (joinTaken n id caps s).minutes := by
  have joined (r : Station) {c : Prop} [Decidable c] :
      InSequence (if c then setStation n r s else noticePresence n (setStation n r s)).minutes :=
    h.of_eq (ite_minutes (setStation_minutes n r s) (by simp))
  exact .of_eq (offer3_minutes _ _) (.ite (depart_inSequence n (joined _)) (joined _))

theorem join_inSequence (id : Identity) (k : JoinKind) (caps : Caps) (h : InSequence s.minutes) :
    InSequence (join id k caps s).minutes := by
  have refused (event value : Nat) : InSequence (joinRefused event value id s).minutes :=
    h.of_eq (raise_minutes _ _ _ s)
  unfold join
  split
  · exact refused _ _
  · split
    · exact refused _ _
    · exact refused _ _
    · exact .ite (joinTaken_inSequence _ id caps h) (refused _ _)
    · exact joinTaken_inSequence _ id caps h
    · exact joinTaken_inSequence _ id caps h
    · exact joinTaken_inSequence _ id caps h

theorem chairOnly_inSequence (n : Nat) {f : State → State}
    (keeps : InSequence s.minutes → InSequence (f s).minutes) (h : InSequence s.minutes) :
    InSequence (chairOnly n f s).minutes := .ite (keeps h) (flash_inSequence n h)

theorem handleKey_inSequence (n code : Nat) (h : InSequence s.minutes) : InSequence (handleKey n code s).minutes := by
  unfold handleKey
  split
  · exact .ite (requestLive_inSequence n h) (requestWalkIn_inSequence n h)
  · exact chairOnly_inSequence n (keyPriorityDown_inSequence n) h
  · exact chairOnly_inSequence n (releasePriority_inSequence n) h
  · exact chairOnly_inSequence n (keyNext_inSequence n) h
  · exact chairOnly_inSequence n (keyExtend_inSequence n) h
  · exact keyShare_inSequence n h
  · exact .ite h (h.of_eq (by simp))
  · exact h

theorem keyArrives_inSequence (n : Nat) (body : List Byte) (h : InSequence s.minutes) :
    InSequence (keyArrives n body s).minutes := by
  unfold keyArrives
  refine .ite ?_ h
  dsimp only
  split
  · exact handleKey_inSequence n _ h
  · exact h

theorem joinArrives_inSequence (body : List Byte) (h : InSequence s.minutes) :
    InSequence (joinArrives body s).minutes := by
  unfold joinArrives
  refine .ite ?_ h
  split
  · exact h
  · exact join_inSequence _ _ _ h

theorem paceArrives_inSequence (n : Nat) (body : List Byte) (h : InSequence s.minutes) :
    InSequence (paceArrives n body s).minutes := by
  unfold paceArrives
  split
  · exact .ite (offerMinute_inSequence (h.of_records rfl rfl)) h
  · exact h

theorem routeCell_inSequence (c : InCell) (h : InSequence s.minutes) : InSequence (routeCell c s).minutes := by
  have good : InSequence (stationGood c.source s).minutes := h.of_eq (stationGood_minutes _ s)
  unfold routeCell
  refine .ite ?_ h
  split
  · split
    · exact stationEcho_inSequence _ _ h
    · exact good
  · exact joinArrives_inSequence _ good
  · exact keyArrives_inSequence _ _ good
  · exact good.of_eq (arriveBody_minutes _ _ _ _)
  · exact paceArrives_inSequence _ _ good

theorem laneArrives_inSequence (l : Lane) (h : InSequence s.minutes) : InSequence (laneArrives l s).minutes := by
  cases l with
  | empty => exact h
  | own => exact h
  | bad => exact h
  | good c => exact routeCell_inSequence c h

/-! ### Frames (R6, R7, R9, R10, R183) -/

theorem minuteMiss_inSequence (h : InSequence s.minutes) : InSequence (minuteMiss s).minutes :=
  offerMinute_inSequence (h.of_records rfl rfl)

/-- R183: a consumed MINUTE takes the head record away, and what its occasion admits follows. -/
theorem minuteConsumed_inSequence (h : InSequence s.minutes) : InSequence (minuteConsumed s).minutes := by
  have delivered : InSequence (s.setMinutes { s.minutes with queue := s.minutes.queue.tail, flight := none }).minutes :=
    h.tail rfl rfl
  exact offerMinute_inSequence (handover_inSequence (autoOpen_inSequence delivered))

theorem stationCellMiss_inSequence (c : StationCell) (h : InSequence s.minutes) :
    InSequence (stationCellMiss c s).minutes := by
  cases c with
  | assign => exact h
  | number id given => exact .ite (stationMiss_inSequence given h) h
  | probe n => exact stationMiss_inSequence n h
  | halt n k => exact .ite h h
  | resume n k => exact .ite h h
  | bypass n k => exact .ite h h
  | unbypass n id k => exact .ite h h
  | resumeAll => exact h
  | unbypassAll => exact h

theorem cellMiss_inSequence (c : OutCell) (h : InSequence s.minutes) : InSequence (cellMiss c s).minutes := by
  cases c with
  | mic n e => exact .ite (h.of_eq (offerMark_minutes _ s)) h
  | laneSeat n b => exact .ite (h.of_eq (offerMark_minutes _ s)) h
  | laneBridge n b => exact .ite (h.of_eq (offerMark_minutes _ s)) h
  | answer a => exact h.of_eq (answerBack_minutes a s)
  | alert n => exact h.of_eq (offerAlert_minutes _)
  | station c => exact stationCellMiss_inSequence c h
  | lamp n c => exact .ite (h.of_eq (markLamp_minutes n s)) h
  | list n l => exact .ite (h.of_eq (setPanelOf_minutes n _ s)) h
  | page n p => exact .ite (h.of_eq (setPanelOf_minutes n _ s)) h
  | piece n counts b => exact .ite (h.of_eq (pieceOutcome_minutes n _ s)) h
  | minute r => exact minuteMiss_inSequence h

theorem cellConsumed_inSequence (c : OutCell) (h : InSequence s.minutes) : InSequence (cellConsumed c s).minutes := by
  cases c with
  | mic n e => exact h
  | laneSeat n b => exact h
  | laneBridge n b => exact h
  | answer a => exact h.of_eq (answerBack_minutes a s)
  | alert n => exact .ite h (h.of_eq (offerAlert_minutes _))
  | station c => exact h
  | lamp n c => exact h.of_eq (setPanelOf_minutes n _ s)
  | list n l => exact h
  | page n p => exact h
  | piece n counts b => exact .ite (h.of_eq (pieceOutcome_minutes n _ s)) h
  | minute r => exact minuteConsumed_inSequence h

theorem placedOutcome_inSequence (cell : Option OutCell) (l : Lane) (h : InSequence s.minutes) :
    InSequence (placedOutcome cell l s).minutes := by
  cases cell with
  | none => exact h
  | some c => exact .ite (cellConsumed_inSequence c h) (cellMiss_inSequence c h)

theorem returnFrame_inSequence (f : Flight) (lane : List Byte) (x : Slots) (h : InSequence s.minutes) :
    InSequence (returnFrame f lane x s).minutes :=
  .of_eq (formFor_minutes _ _ _) (.of_eq (probeOver_minutes _ _) (laneArrives_inSequence _
    (placedOutcome_inSequence _ _ (h.of_eq (restoreRing_minutes _)))))

theorem breakRing_inSequence (h : InSequence s.minutes) : InSequence (breakRing s).minutes := by
  have noticed (ns : List Nat) (t : State) : (ns.foldl (fun u n => noticePresence n u) t).minutes = t.minutes :=
    foldl_minutes (fun u n => noticePresence_minutes n u) ns t
  exact .of_eq (raise_minutes _ _ _ _) (.foldl (fun _ n => depart_inSequence n) _
    (h.of_eq ((noticed _ _).trans (silenceAll_minutes _ _))))

theorem failFrame_inSequence (f : Flight) (h : InSequence s.minutes) : InSequence (failFrame f s).minutes := by
  have due {t : State} (ht : InSequence t.minutes) : InSequence (breakIfDue t).minutes :=
    .ite (breakRing_inSequence ht) ht
  unfold failFrame
  refine .of_eq (formFor_minutes _ _ _) (due (.of_eq (probeOver_minutes _ _) ?_))
  split
  · exact h
  · exact cellMiss_inSequence _ h

theorem failOutstanding_inSequence (h : InSequence s.minutes) : InSequence (failOutstanding s).minutes := by
  unfold failOutstanding
  split
  · exact h
  · exact failFrame_inSequence _ h

/-! ### Supplies, the reset line and table time (R29, R204, R208 to R210) -/

/-- After every restart kind the queue is empty and the next sequence 0 (R174); reconciliation goes on from there. -/
theorem restartKept_inSequence (causes : List StartCause) (reading : BackupCond) (s : State) :
    InSequence (restartKept causes reading s).minutes := reconcile_inSequence inSequence_cleared

theorem restartCold_inSequence (causes : List StartCause) (reading : BackupCond) (s : State) :
    InSequence (restartCold causes reading s).minutes := inSequence_cleared

theorem mainsLost_inSequence (h : InSequence s.minutes) : InSequence (mainsLost s).minutes := by
  unfold mainsLost
  split
  · exact .ite inSequence_cleared inSequence_cleared
  · exact h
  · exact h

theorem mainsReturned_inSequence (reading : BackupCond) (h : InSequence s.minutes) :
    InSequence (mainsReturned reading s).minutes := by
  unfold mainsReturned
  split
  · exact h
  · exact .ite inSequence_cleared (restartKept_inSequence _ _ s)
  · exact .ite inSequence_cleared (restartCold_inSequence _ _ s)

theorem backupFell_inSequence (h : InSequence s.minutes) : InSequence (backupFell s).minutes := by
  unfold backupFell
  split
  · exact .ite h (h.of_eq (raise_minutes _ _ _ _))
  · exact h
  · exact h

theorem backupRose_inSequence (h : InSequence s.minutes) : InSequence (backupRose s).minutes := by
  unfold backupRose
  split
  · exact .ite h (h.of_eq (raise_minutes _ _ _ _))
  · exact h
  · exact h

theorem lineLow_inSequence (h : InSequence s.minutes) : InSequence (lineLow s).minutes := by
  unfold lineLow
  dsimp only
  split
  · exact .ite h inSequence_cleared
  · exact h
  · exact h

theorem lineReleased_inSequence (reading : BackupCond) (h : InSequence s.minutes) :
    InSequence (lineReleased reading s).minutes := by
  unfold lineReleased
  refine .ite ?_ h
  dsimp only
  split
  · split
    · exact restartCold_inSequence _ _ _
    · exact restartKept_inSequence _ _ _
    · exact restartKept_inSequence _ _ _
  · exact h
  · exact h

theorem tick_inSequence (h : InSequence s.minutes) : InSequence (tick s).minutes := by
  have increment {t : State} (ht : InSequence t.minutes) : InSequence (atIncrement t).minutes :=
    .of_eq (tickTimers_minutes _) (.of_eq (checkWarning_minutes _)
      (startDetection_inSequence (endDetection_inSequence ht)))
  have counted : InSequence (countSecond s).minutes := h
  unfold tick
  split
  · exact .ite counted (.of_eq (settle_minutes _) (increment counted))
  · exact counted
  · exact h

theorem inMain_inSequence {f : State → State} (keeps : InSequence s.minutes → InSequence (f s).minutes)
    (h : InSequence s.minutes) : InSequence (inMain f s).minutes :=
  .ite (.of_eq (settle_minutes _) (keeps h)) h

theorem haltInterval_minutes (n : Nat) (s : State) : (haltInterval n s).minutes = s.minutes :=
  ite_minutes (ite_minutes (setStation_minutes _ _ s) (setStation_minutes _ _ s)) rfl

end

/-! ### Orders (R187, R188) -/

/-- What an owner makes of a state keeps the numbers running on. -/
def OwnerKeeps (owner : State → Reply) : Prop := ∀ s, InSequence s.minutes → InSequence (owner s).state.minutes

/-- Most owners leave the minutes unit alone. -/
theorem OwnerKeeps.of_minutes {owner : State → Reply} (same : ∀ s, (owner s).state.minutes = s.minutes) :
    OwnerKeeps owner := fun s h => h.of_eq (same s)

theorem carryOut_inSequence {owner : State → Reply} (keeps : OwnerKeeps owner) (h : OrderHead) (code : Nat)
    {s : State} (hs : InSequence s.minutes) : InSequence (carryOut h code owner s).minutes := by
  have replied := keeps s hs
  unfold carryOut
  dsimp only
  cases (owner s).follow with
  | nothing => exact replied
  | alert => exact replied.of_eq (offerAlert_minutes _)
  | reconcile => exact reconcile_inSequence (s := popInbound _) replied

theorem runOrder_inSequence {owner : State → Reply} (keeps : OwnerKeeps owner) {i : Instr} {h : OrderHead}
    {code : Nat} {s : State} (hs : InSequence s.minutes) : InSequence (runOrder i h code owner s).minutes := by
  have arrived : InSequence (if atHead i s then s else arriveOrder i h code s).minutes :=
    .ite hs (hs.of_eq (arriveOrder_minutes i h code s))
  exact .ite (.of_eq (settle_minutes _) (.ite (carryOut_inSequence keeps h code arrived) arrived)) hs

section
variable (s : State)

theorem ite_reply_minutes {r q : Reply} {m : Minutes} {c : Prop} [Decidable c] (a : r.state.minutes = m)
    (b : q.state.minutes = m) : (if c then r else q).state.minutes = m := by
  split <;> assumption

theorem InSequence.ite_reply {r q : Reply} {c : Prop} [Decidable c] (a : InSequence r.state.minutes)
    (b : InSequence q.state.minutes) : InSequence (if c then r else q).state.minutes := by
  split <;> assumption

/-! The station unit's orders. -/

theorem forgetOrder_keeps (n : Nat) : OwnerKeeps (forgetOrder n) := by
  intro s h
  have forgotten : InSequence (forgetRecord n s).minutes := by
    have marked : InSequence (if (station s n).call then markLamp n (setStation n Station.vacant s)
        else setStation n Station.vacant s).minutes := h.of_eq (ite_minutes (by simp) (by simp))
    exact .ite (depart_inSequence n marked) marked
  unfold forgetOrder
  refine .ite_reply ?_ h
  split
  · exact forgotten
  · exact forgotten
  · exact h
  · exact h
  · exact h
  · exact h

theorem haltSeatOrder_keeps (n : Nat) : OwnerKeeps (haltSeatOrder n) := by
  intro s h
  have halted : InSequence (haltStation n s).minutes := depart_inSequence n (h.of_eq (setStation_minutes _ _ _))
  unfold haltSeatOrder
  refine .ite_reply ?_ h
  split
  · exact halted
  · exact h
  · exact h
  · exact h
  · exact h
  · exact h

theorem resumeSeatOrder_minutes (n : Nat) : (resumeSeatOrder n s).state.minutes = s.minutes := by
  have resumed : (resumeStation n s).minutes = s.minutes :=
    ite_minutes rfl (ite_minutes rfl (setStation_minutes n _ s))
  unfold resumeSeatOrder
  refine ite_reply_minutes ?_ rfl
  split
  · exact resumed
  · rfl
  · rfl
  · rfl
  · rfl
  · rfl

theorem bypassOrder_keeps (n : Nat) : OwnerKeeps (bypassOrder n) := by
  intro s h
  have bypassed : InSequence (bypassStation n s).minutes := depart_inSequence n (h.of_eq (setStation_minutes _ _ _))
  exact .ite_reply (.ite_reply bypassed h) h

theorem unbypassOrder_minutes (n : Nat) : (unbypassOrder n s).state.minutes = s.minutes :=
  ite_reply_minutes (ite_reply_minutes (setStation_minutes n _ _) rfl) rfl

theorem clearCallOrder_minutes (n : Nat) : (clearCallOrder n s).state.minutes = s.minutes :=
  ite_reply_minutes (ite_reply_minutes ((markLamp_minutes n _).trans (setStation_minutes n _ s)) rfl) rfl

theorem loadRingPlanOrder_minutes (f : RawRingPlan) : (loadRingPlanOrder f s).state.minutes = s.minutes := by
  unfold loadRingPlanOrder
  split
  · rfl
  · exact ite_reply_minutes rfl ((retestCadence_minutes _).trans (selectClock_minutes _ _))

/-! The calendar unit's orders. -/

theorem guarded_minutes {go : State → Reply} (same : (go s).state.minutes = s.minutes) (code : Nat)
    (guard : BitVec 32) : (guarded code guard go s).state.minutes = s.minutes :=
  ite_reply_minutes rfl (ite_reply_minutes (raise_minutes _ _ _ _) same)

theorem setClockOrder_minutes (time : Nat) (guard : BitVec 32) :
    (setClockOrder time guard s).state.minutes = s.minutes := by
  refine ite_reply_minutes (guarded_minutes s ?_ _ guard) rfl
  exact ite_reply_minutes rfl rfl

theorem bookOrder_minutes (f : RawBooking) : (bookOrder f s).state.minutes = s.minutes := by
  unfold bookOrder
  refine ite_reply_minutes rfl ?_
  split
  · rfl
  · refine ite_reply_minutes rfl (ite_reply_minutes rfl ?_)
    split <;> rfl

theorem alterOrder_minutes (id : Nat) (f : RawBooking) : (alterOrder id f s).state.minutes = s.minutes := by
  unfold alterOrder
  refine ite_reply_minutes rfl ?_
  split
  · rfl
  · refine ite_reply_minutes rfl ?_
    split
    · rfl
    · refine ite_reply_minutes rfl ?_
      split <;> rfl

theorem cancelOrder_minutes (id : Nat) : (cancelOrder id s).state.minutes = s.minutes := by
  unfold cancelOrder
  split
  · rfl
  · exact ite_reply_minutes rfl (ite_reply_minutes rfl rfl)

theorem readBookingOrder_minutes (position : Nat) : (readBookingOrder position s).state.minutes = s.minutes := by
  unfold readBookingOrder
  split
  · rfl
  · split <;> rfl

/-! The session controller's orders. -/

theorem loadPlanOrder_minutes (p : Nat) (enabled : SeatSet) (c1 c2 : Nat) (right : SeatSet) :
    (loadPlanOrder p enabled c1 c2 right s).state.minutes = s.minutes := by
  unfold loadPlanOrder
  refine ite_reply_minutes rfl ?_
  split
  · rfl
  · exact ite_reply_minutes rfl rfl

theorem loadWalkInOrder_minutes (f : RawWalkIn) : (loadWalkInOrder f s).state.minutes = s.minutes := by
  unfold loadWalkInOrder
  split <;> rfl

theorem startNowReply_state (r : Created × State) : (startNowReply r).state = r.2 := by
  unfold startNowReply
  split <;> rfl

theorem startNowOrder_keeps : OwnerKeeps startNowOrder := by
  intro s h
  have started := startWalkIn_inSequence .order h
  rw [← startNowReply_state] at started
  exact .ite_reply h (.ite_reply h (.ite_reply h (.ite_reply started h)))

theorem endNowOrder_keeps : OwnerKeeps endNowOrder := by
  intro s h
  unfold endNowOrder
  split
  · exact h
  · exact endSession_inSequence .order h

theorem extendReply_state (r : ExtendResult × State) : (extendReply r).state = r.2 := by
  unfold extendReply
  split <;> rfl

theorem extendOrder_keeps : OwnerKeeps extendOrder := by
  intro s h
  have extended := requestExtension_inSequence .order h
  rwa [← extendReply_state] at extended

theorem raiseGradeOrder_keeps (g : Nat) : OwnerKeeps (raiseGradeOrder g) := by
  intro s h
  unfold raiseGradeOrder
  split
  · exact h
  · exact .ite_reply h (.ite_reply h (.ite_reply (takeGrade_inSequence _ g h) h))

theorem adjustSessionOrder_keeps (field value : Nat) : OwnerKeeps (adjustSessionOrder field value) := by
  intro s h
  unfold adjustSessionOrder
  split
  · exact h
  · split
    · exact h
    · exact .ite_reply h (afterAdjust_inSequence (s := s.setCtx _) _ _ field h)

theorem switchPlanOrder_keeps (p : Nat) : OwnerKeeps (switchPlanOrder p) := by
  intro s h
  unfold switchPlanOrder
  split
  · exact h
  · exact .ite_reply h (.ite_reply h (.ite_reply (switchActivePlan_inSequence p (admitRecord_inSequence _ h)) h))

theorem readSessionOrder_minutes : (readSessionOrder s).state.minutes = s.minutes := by
  unfold readSessionOrder
  split <;> rfl

/-! The floor's orders. -/

theorem grantReply_state (n : Nat) (r : Bool × State) : (grantReply n r).state = r.2 := by
  unfold grantReply
  split <;> rfl

theorem grantOrder_keeps (n force : Nat) : OwnerKeeps (grantOrder n force) := by
  intro s h
  have opened (cat : Category) : InSequence (grantReply n (tryOpen n cat .order s)).state.minutes := by
    rw [grantReply_state]
    exact tryOpen_inSequence n cat .order h
  have replaced : InSequence (grantReply n (replaceMic n .order .order s)).state.minutes := by
    rw [grantReply_state]
    exact replaceMic_inSequence n .order .order h
  unfold grantOrder
  split
  · exact h
  · exact .ite_reply h (.ite_reply h (.ite_reply h (.ite_reply (opened .chair) (.ite_reply h
      (.ite_reply (opened .delegate) (.ite_reply h replaced))))))

theorem closeOrder_keeps (n : Nat) : OwnerKeeps (closeOrder n) := by
  intro s h
  unfold closeOrder
  refine .ite_reply h (.ite_reply h ?_)
  split
  · exact h
  · split
    · exact h
    · exact closeMic_inSequence n .order h

theorem closeAllOrder_keeps (chairs : Nat) : OwnerKeeps (closeAllOrder chairs) := by
  intro s h
  have closed (seats : List Nat) : InSequence (seats.foldl (fun u n => closeMicOnly n .order u) s).minutes :=
    .foldl (fun _ n => closeMicOnly_inSequence n .order) seats h
  unfold closeAllOrder
  refine .ite_reply h ?_
  split
  · exact h
  · exact .ite (closed _) (autoOpen_inSequence (closed _))

theorem queueInsertOrder_keeps (n position : Nat) : OwnerKeeps (queueInsertOrder n position) := by
  intro s h
  exact .ite_reply h (.ite_reply h (.ite_reply h (.ite_reply h (.ite_reply h
    (autoOpen_inSequence (joinQueue_inSequence n position .order h))))))

theorem queueRemoveOrder_keeps (n : Nat) : OwnerKeeps (queueRemoveOrder n) := by
  intro s h
  exact .ite_reply h (.ite_reply h (.ite_reply (withdraw_inSequence n .order h) h))

theorem queueClearOrder_keeps : OwnerKeeps queueClearOrder := by
  intro s h
  have cleared : InSequence (s.queue.foldl (fun t n => withdrawOnly n .order t) s).minutes :=
    .foldl (fun _ n => withdrawOnly_inSequence n .order) _ h
  exact .ite_reply cleared h

theorem readQueueOrder_minutes (position : Nat) : (readQueueOrder position s).state.minutes = s.minutes :=
  ite_reply_minutes rfl (ite_reply_minutes rfl rfl)

/-! The orders of the mix engine and of the share controller. -/

theorem clearClockFaultOrder_minutes : (clearClockFaultOrder s).state.minutes = s.minutes := by
  unfold clearClockFaultOrder
  split
  · exact ite_reply_minutes (raise_minutes _ _ _ _) rfl
  · rfl
  · rfl
  · rfl

theorem shareGrantOrder_keeps (n : Nat) : OwnerKeeps (shareGrantOrder n) := by
  intro s h
  exact .ite_reply h (.ite_reply h (.ite_reply h (.ite_reply h (.ite_reply (shareGrantTake_inSequence n h) h))))

theorem shareEndOrder_keeps : OwnerKeeps shareEndOrder := by
  intro s h
  exact .ite_reply h (.ite_reply h (endShare_inSequence .order h))

/-! The panel engine's orders. -/

theorem stage_minutes (op : PanelOp) (T : Targets) : (stage op T s).state.minutes = s.minutes :=
  ite_reply_minutes rfl (takeStaged_minutes _)

theorem panelPageOrder_minutes (p : Nat) (tg : TargetSet) : (panelPageOrder p tg s).state.minutes = s.minutes := by
  unfold panelPageOrder
  split
  · exact stage_minutes s _ _
  · rfl

theorem panelTextOrder_minutes (c l : Nat) (x : List Byte) (tg : TargetSet) :
    (panelTextOrder c l x tg s).state.minutes = s.minutes := by
  unfold panelTextOrder
  split
  · exact ite_reply_minutes (stage_minutes s _ _) rfl
  · rfl

theorem panelTileOrder_minutes (k c x y : Nat) (tg : TargetSet) :
    (panelTileOrder k c x y tg s).state.minutes = s.minutes := by
  unfold panelTileOrder
  split
  · exact ite_reply_minutes (ite_reply_minutes (stage_minutes s _ _) rfl) rfl
  · rfl

theorem panelFillOrder_minutes (c x0 x1 y0 y1 k : Nat) (tg : TargetSet) :
    (panelFillOrder c x0 x1 y0 y1 k tg s).state.minutes = s.minutes := by
  unfold panelFillOrder
  split
  · exact ite_reply_minutes (stage_minutes s _ _) rfl
  · rfl

theorem setClipOrder_minutes (x0 x1 y0 y1 : Nat) (tg : TargetSet) :
    (setClipOrder x0 x1 y0 y1 tg s).state.minutes = s.minutes := by
  unfold setClipOrder
  split
  · exact ite_reply_minutes (writeWindow_minutes _ _ s) rfl
  · rfl

theorem tileFlipOrder_minutes (k : Nat) : (tileFlipOrder k s).state.minutes = s.minutes :=
  ite_reply_minutes rfl (ite_reply_minutes rfl (ite_reply_minutes rfl rfl))

/-! The orders of the minutes unit, of the order unit and of the supply and cadence unit. -/

theorem setLogModeOrder_keeps (mode : Nat) : OwnerKeeps (setLogModeOrder mode) := by
  intro s h
  unfold setLogModeOrder
  split
  · exact h
  · exact h
  · exact .ite_reply h (.ite_reply h (handover_inSequence (autoOpen_inSequence (s := s.setCtx _) h)))

theorem setLogRangeOrder_keeps (range enabled first last mask : Nat) :
    OwnerKeeps (setLogRangeOrder range enabled first last mask) := by
  intro s h
  unfold setLogRangeOrder
  split
  · refine .ite_reply h ?_
    exact .ite (h.of_records rfl rfl) (h.of_records rfl rfl)
  · exact h

theorem setNoticeMaskOrder_minutes (m : BitVec 16) : (setNoticeMaskOrder m s).state.minutes = s.minutes :=
  ite_minutes (offerAlert_minutes _) rfl

theorem takeNoticeOrder_minutes : (takeNoticeOrder s).state.minutes = s.minutes :=
  ite_reply_minutes rfl (ite_reply_minutes rfl (setNotice_minutes _ _ s))

theorem enableBackupOrder_minutes : (enableBackupOrder s).state.minutes = s.minutes := by
  unfold enableBackupOrder
  split <;> rfl

theorem restartOrder_minutes : (restartOrder s).state.minutes = s.minutes := by
  unfold restartOrder
  split <;> rfl

end

/-! ### The step -/

/-- Every command answers a state whose minutes queue is numbered on without a gap. -/
theorem exec_inSequence (i : Instr) {s : State} (h : InSequence s.minutes) :
    ∃ t, exec i s = .next t ∧ InSequence t.minutes := by
  have order {owner : State → Reply} (keeps : OwnerKeeps owner) (hd : OrderHead) (code : Nat) :
      InSequence (runOrder i hd code owner s).minutes := runOrder_inSequence keeps h
  have quiet {owner : State → Reply} (same : ∀ u, (owner u).state.minutes = u.minutes) (hd : OrderHead)
      (code : Nat) : InSequence (runOrder i hd code owner s).minutes := order (.of_minutes same) hd code
  cases i with
  | frameEmit =>
      exact ⟨_, rfl, inMain_inSequence
        (fun hs => .of_eq (emitFrame_minutes _) (failOutstanding_inSequence hs)) h⟩
  | frameReturn number lane slots =>
      refine ⟨_, rfl, inMain_inSequence (fun hs => ?_) h⟩
      split
      · exact hs
      · exact .ite (returnFrame_inSequence _ lane slots hs) hs
  | frameFail => exact ⟨_, rfl, inMain_inSequence failOutstanding_inSequence h⟩
  | probeRound => exact ⟨_, rfl, inMain_inSequence (.of_eq (probeRound_minutes s)) h⟩
  | haltIntervalExpiry n => exact ⟨_, rfl, inMain_inSequence (.of_eq (haltInterval_minutes n s)) h⟩
  | graceExpiry => exact ⟨_, rfl, inMain_inSequence (fun hs => .ite (endShare_inSequence .grace hs) hs) h⟩
  | tableTimeTick => exact ⟨_, rfl, tick_inSequence h⟩
  | speakLimitExpiry n => exact ⟨_, rfl, inMain_inSequence (speakLimitReached_inSequence n) h⟩
  | flashExpiry n => exact ⟨_, rfl, inMain_inSequence (.of_eq (ite_minutes (setPanelOf_minutes n _ s) rfl)) h⟩
  | listRefreshExpiry => exact ⟨_, rfl, inMain_inSequence (.of_eq (ite_minutes rfl rfl)) h⟩
  | cadenceTimerExpiry => exact ⟨_, rfl, inMain_inSequence (.of_eq (ite_minutes rfl rfl)) h⟩
  | externalPresent => exact ⟨_, rfl, inMain_inSequence id h⟩
  | externalLoss => exact ⟨_, rfl, inMain_inSequence (.of_eq (externalLost_minutes s)) h⟩
  | mainsLoss => exact ⟨_, rfl, mainsLost_inSequence h⟩
  | mainsReturn reading => exact ⟨_, rfl, .of_eq (settle_minutes _) (mainsReturned_inSequence reading h)⟩
  | backupLow => exact ⟨_, rfl, backupFell_inSequence h⟩
  | backupOk => exact ⟨_, rfl, backupRose_inSequence h⟩
  | resetLineLow => exact ⟨_, rfl, lineLow_inSequence h⟩
  | resetLineRelease reading => exact ⟨_, rfl, .of_eq (settle_minutes _) (lineReleased_inSequence reading h)⟩
  | restartExecute reading =>
      exact ⟨_, rfl, inMain_inSequence (.ite (restartKept_inSequence _ reading s)) h⟩
  | readStation hd n => exact ⟨_, rfl, quiet (fun _ => ite_reply_minutes rfl rfl) hd _⟩
  | forget hd n => exact ⟨_, rfl, order (forgetOrder_keeps n) hd _⟩
  | haltSeat hd n => exact ⟨_, rfl, order (haltSeatOrder_keeps n) hd _⟩
  | resumeSeat hd n => exact ⟨_, rfl, quiet (resumeSeatOrder_minutes · n) hd _⟩
  | bypass hd n => exact ⟨_, rfl, order (bypassOrder_keeps n) hd _⟩
  | unbypass hd n => exact ⟨_, rfl, quiet (unbypassOrder_minutes · n) hd _⟩
  | clearCall hd n => exact ⟨_, rfl, quiet (clearCallOrder_minutes · n) hd _⟩
  | loadPlan hd p e c1 c2 r => exact ⟨_, rfl, quiet (loadPlanOrder_minutes · p e c1 c2 r) hd _⟩
  | readPlan hd p => exact ⟨_, rfl, quiet (fun _ => ite_reply_minutes rfl rfl) hd _⟩
  | loadWalkIn hd f => exact ⟨_, rfl, quiet (loadWalkInOrder_minutes · f) hd _⟩
  | readWalkIn hd => exact ⟨_, rfl, quiet (fun _ => rfl) hd _⟩
  | setClock hd time guard => exact ⟨_, rfl, quiet (setClockOrder_minutes · time guard) hd _⟩
  | readClock hd => exact ⟨_, rfl, quiet (fun _ => rfl) hd _⟩
  | book hd f => exact ⟨_, rfl, quiet (bookOrder_minutes · f) hd _⟩
  | alter hd id f => exact ⟨_, rfl, quiet (alterOrder_minutes · id f) hd _⟩
  | cancel hd id => exact ⟨_, rfl, quiet (cancelOrder_minutes · id) hd _⟩
  | readBooking hd p => exact ⟨_, rfl, quiet (readBookingOrder_minutes · p) hd _⟩
  | setHorizon hd time => exact ⟨_, rfl, quiet (fun _ => ite_reply_minutes rfl rfl) hd _⟩
  | lowerHorizon hd time guard => exact ⟨_, rfl, quiet (fun u => guarded_minutes u rfl _ guard) hd _⟩
  | eraseBookings hd guard => exact ⟨_, rfl, quiet (fun u => guarded_minutes u rfl _ guard) hd _⟩
  | setGuard hd value => exact ⟨_, rfl, quiet (fun _ => ite_reply_minutes rfl rfl) hd _⟩
  | startNow hd => exact ⟨_, rfl, order startNowOrder_keeps hd _⟩
  | endNow hd => exact ⟨_, rfl, order endNowOrder_keeps hd _⟩
  | extend hd => exact ⟨_, rfl, order extendOrder_keeps hd _⟩
  | raiseGrade hd g => exact ⟨_, rfl, order (raiseGradeOrder_keeps g) hd _⟩
  | adjustSession hd field value => exact ⟨_, rfl, order (adjustSessionOrder_keeps field value) hd _⟩
  | switchPlan hd p => exact ⟨_, rfl, order (switchPlanOrder_keeps p) hd _⟩
  | readSession hd => exact ⟨_, rfl, quiet readSessionOrder_minutes hd _⟩
  | grant hd n force => exact ⟨_, rfl, order (grantOrder_keeps n force) hd _⟩
  | close hd n => exact ⟨_, rfl, order (closeOrder_keeps n) hd _⟩
  | closeAll hd chairs => exact ⟨_, rfl, order (closeAllOrder_keeps chairs) hd _⟩
  | queueInsert hd n p => exact ⟨_, rfl, order (queueInsertOrder_keeps n p) hd _⟩
  | queueRemove hd n => exact ⟨_, rfl, order (queueRemoveOrder_keeps n) hd _⟩
  | queueClear hd => exact ⟨_, rfl, order queueClearOrder_keeps hd _⟩
  | readQueue hd p => exact ⟨_, rfl, quiet (readQueueOrder_minutes · p) hd _⟩
  | readChannels hd => exact ⟨_, rfl, quiet (fun _ => rfl) hd _⟩
  | setGain hd bus source code => exact ⟨_, rfl, quiet (fun _ => ite_reply_minutes rfl rfl) hd _⟩
  | readMix hd bus => exact ⟨_, rfl, quiet (fun _ => ite_reply_minutes rfl rfl) hd _⟩
  | shareGrant hd n => exact ⟨_, rfl, order (shareGrantOrder_keeps n) hd _⟩
  | shareEnd hd => exact ⟨_, rfl, order shareEndOrder_keeps hd _⟩
  | shareClearWaiting hd => exact ⟨_, rfl, quiet (fun _ => ite_reply_minutes rfl rfl) hd _⟩
  | panelPage hd p tg => exact ⟨_, rfl, quiet (panelPageOrder_minutes · p tg) hd _⟩
  | panelText hd c l x tg => exact ⟨_, rfl, quiet (panelTextOrder_minutes · c l x tg) hd _⟩
  | panelTile hd k c x y tg => exact ⟨_, rfl, quiet (panelTileOrder_minutes · k c x y tg) hd _⟩
  | panelFill hd c x0 x1 y0 y1 k tg => exact ⟨_, rfl, quiet (panelFillOrder_minutes · c x0 x1 y0 y1 k tg) hd _⟩
  | setClip hd x0 x1 y0 y1 tg => exact ⟨_, rfl, quiet (setClipOrder_minutes · x0 x1 y0 y1 tg) hd _⟩
  | tileLoad hd k p d => exact ⟨_, rfl, quiet (fun _ => ite_reply_minutes rfl rfl) hd _⟩
  | tileFlip hd k => exact ⟨_, rfl, quiet (tileFlipOrder_minutes · k) hd _⟩
  | readPanel hd n => exact ⟨_, rfl, quiet (fun _ => ite_reply_minutes rfl rfl) hd _⟩
  | setLogMode hd mode => exact ⟨_, rfl, order (setLogModeOrder_keeps mode) hd _⟩
  | setLogRange hd r e a b m => exact ⟨_, rfl, order (setLogRangeOrder_keeps r e a b m) hd _⟩
  | readLog hd => exact ⟨_, rfl, quiet (fun _ => rfl) hd _⟩
  | readStatus hd => exact ⟨_, rfl, quiet (fun _ => rfl) hd _⟩
  | setNoticeMask hd m => exact ⟨_, rfl, quiet (setNoticeMaskOrder_minutes · m) hd _⟩
  | takeNotice hd => exact ⟨_, rfl, quiet takeNoticeOrder_minutes hd _⟩
  | clearNotices hd => exact ⟨_, rfl, quiet (fun _ => rfl) hd _⟩
  | loadRingPlan hd f => exact ⟨_, rfl, quiet (loadRingPlanOrder_minutes · f) hd _⟩
  | enableBackup hd => exact ⟨_, rfl, quiet enableBackupOrder_minutes hd _⟩
  | disableBackup hd => exact ⟨_, rfl, quiet (fun _ => rfl) hd _⟩
  | clearClockFault hd => exact ⟨_, rfl, quiet clearClockFaultOrder_minutes hd _⟩
  | restart hd => exact ⟨_, rfl, quiet restartOrder_minutes hd _⟩

/-- Settles O8: a step on an empty queue of commands idles, and any other is one command on the rest of the queue. -/
theorem stepKeepsMinutesSequence : Obligations.StepKeepsMinutesSequence := by
  intro s t sequence run
  have held : InSequence s.minutes := minutesSequence_iff.mp sequence
  refine minutesSequence_iff.mpr ?_
  unfold step at run
  split at run
  · cases run
    exact held
  · rename_i i rest _
    obtain ⟨u, answers, kept⟩ := exec_inSequence i (s := s.setPending rest) held
    rw [answers] at run
    cases run
    exact kept

/-! ### SET LOG MODE (R180) -/

theorem exec_setLogMode (h : OrderHead) (mode : Nat) (s : State) :
    exec (.setLogMode h mode) s = .next (runOrder (.setLogMode h mode) h 0x80 (setLogModeOrder mode) s) := rfl

theorem minutesModeOf_eq_none {mode : Nat} (range : 1 < mode) : minutesModeOf mode = none := by
  have strict : mode ≠ 0 := by omega
  have loose : mode ≠ 1 := by omega
  simp [minutesModeOf, strict, loose]

theorem minutesModeOf_isSome {mode : Nat} (range : mode ≤ 1) : ∃ m, minutesModeOf mode = some m := by
  obtain rfl | rfl : mode = 0 ∨ mode = 1 := by omega
  · exact ⟨.strict, rfl⟩
  · exact ⟨.loose, rfl⟩

theorem minutesModeOf_of_codes {mode : Nat} {m : MinutesMode}
    (codes : mode = 0 ∧ m = .strict ∨ mode = 1 ∧ m = .loose) : minutesModeOf mode = some m := by
  obtain ⟨rfl, rfl⟩ | ⟨rfl, rfl⟩ := codes <;> rfl

/-- R174, R175: the entries that STRICT asks for, against those that are free. -/
theorem freeEntries_lt_reserve_iff {s : State} : freeEntries s < reserve s ↔
    32 - s.minutes.queue.length < openCount s + (if s.share.holder.isSome = true then 1 else 0) + 1 := Iff.rfl

/-- R180: past the first two checks the order turns on the mode in force and on the reserve. -/
theorem setLogModeOrder_of_live {s : State} {c : Session} {mode : Nat} {m : MinutesMode} (live : liveCtx s = some c)
    (code : minutesModeOf mode = some m) : setLogModeOrder mode s =
      if m = c.mode then done [] s
      else if m = .strict ∧ freeEntries s < reserve s then refuse .logFull s
      else done [] (takeMode c m s) := by
  simp only [setLogModeOrder, code, live]

/-- With nobody waiting a handover pass grants nobody the lane (R141). -/
theorem handover_of_nobody_waiting {s : State} (nobody : s.share.waiting = []) : handover s = s := by
  simp [handover, nobody, handoverGo]

theorem takeMode_of_nobody {s : State} (unqueued : s.queue = []) (unwaiting : s.share.waiting = []) (c : Session)
    (m : MinutesMode) : takeMode c m s = s.setCtx (some { c with mode := m }) := by
  let t := s.setCtx (some { c with mode := m })
  calc takeMode c m s = handover t := congrArg handover (autoOpen_of_empty (s := t) unqueued)
    _ = t := handover_of_nobody_waiting (s := t) unwaiting

/-! ### SET LOG RANGE (R173) -/

theorem exec_setLogRange (h : OrderHead) (r e a b m : Nat) (s : State) : exec (.setLogRange h r e a b m) s =
    .next (runOrder (.setLogRange h r e a b m) h 0x81 (setLogRangeOrder r e a b m) s) := rfl

theorem logRangeOf_in_range {e a b m : Nat} (flag : e ≤ 1) (bounds : 1 ≤ a ∧ a ≤ b ∧ b ≤ 80 ∧ m ≤ 7) :
    logRangeOf e a b m =
      some { enabled := decide (e = 1), first := a, last := b, mask := BitVec.ofNat 3 m } := by
  simp [logRangeOf, flagOf_of_le_one flag, bounds]

theorem logRangeOf_eq_none {e a b m : Nat} (range : 1 < e ∨ a = 0 ∨ b < a ∨ 80 < b ∨ 7 < m) :
    logRangeOf e a b m = none := by
  unfold logRangeOf
  split
  · rfl
  · rename_i flag
    have carried : e ≤ 1 := by
      refine Nat.le_of_not_lt fun outside => ?_
      rw [flagOf_of_one_lt outside] at flag
      cases flag
    have outside : ¬(1 ≤ a ∧ a ≤ b ∧ b ≤ 80 ∧ m ≤ 7) := by omega
    exact if_neg outside

theorem setLogRangeOrder_out_of_range {r e a b m : Nat}
    (range : 1 < r ∨ 1 < e ∨ a = 0 ∨ b < a ∨ 80 < b ∨ 7 < m) (s : State) :
    setLogRangeOrder r e a b m s = refuse .range s := by
  rcases range with outside | field
  · simp [setLogRangeOrder, flagOf_of_one_lt outside]
  · simp [setLogRangeOrder, logRangeOf_eq_none field]

/-- R173, check 2: while a session is LIVE the ranges stand. -/
theorem setLogRangeOrder_in_range {r e a b m : Nat} (which : r ≤ 1) (flag : e ≤ 1)
    (bounds : 1 ≤ a ∧ a ≤ b ∧ b ≤ 80 ∧ m ≤ 7) (s : State) : setLogRangeOrder r e a b m s =
      if sessionLive s then refuse .state s
      else done [] (storeRange (decide (r = 1))
        { enabled := decide (e = 1), first := a, last := b, mask := BitVec.ofNat 3 m } s) := by
  simp only [setLogRangeOrder, flagOf_of_le_one which, logRangeOf_in_range flag bounds]

/-- Settles O59, order by order and check by check. -/
theorem logOrders : Obligations.LogOrders := by
  intro h s
  refine ⟨fun mode ready => ⟨fun range => ?_, fun range dead => ?_, fun c m live codes => ?_⟩,
    fun r e a b m ready => ⟨fun range => ?_, fun which flag low order high mask => ?_⟩⟩
  · rw [exec_setLogMode, runOrder_refused ready h 0x80 (status := .range) (t := s)]
    simp [setLogModeOrder, minutesModeOf_eq_none range]
  · obtain ⟨m, code⟩ := minutesModeOf_isSome range
    rw [exec_setLogMode, runOrder_refused ready h 0x80 (status := .noSession) (t := s)]
    simp [setLogModeOrder, code, dead]
  · have turns := setLogModeOrder_of_live live (minutesModeOf_of_codes codes)
    rw [exec_setLogMode]
    refine ⟨fun same => ?_, fun other strict full => ?_, fun other room unqueued unwaiting => ?_⟩
    · rw [runOrder_done ready h 0x80 (turns.trans (if_pos same.symm))]
    · rw [if_neg (Ne.symm other), if_pos ⟨strict, freeEntries_lt_reserve_iff.mpr full⟩] at turns
      rw [runOrder_refused ready h 0x80 turns]
    · have fits : ¬(m = .strict ∧ freeEntries s < reserve s) := fun ⟨strict, short⟩ =>
        Nat.not_lt.mpr (room strict) (freeEntries_lt_reserve_iff.mp short)
      rw [if_neg (Ne.symm other), if_neg fits, takeMode_of_nobody unqueued unwaiting] at turns
      rw [runOrder_done ready h 0x80 turns]
      rfl
  · rw [exec_setLogRange, runOrder_refused ready h 0x81 (setLogRangeOrder_out_of_range range s)]
  · have turns := setLogRangeOrder_in_range which flag ⟨low, order, high, mask⟩ s
    rw [exec_setLogRange]
    dsimp only
    split
    · rename_i live
      rw [runOrder_refused ready h 0x81 (turns.trans (if_pos live))]
    · rename_i dead
      rw [runOrder_done ready h 0x81 (turns.trans (if_neg dead))]
      obtain rfl | rfl : r = 0 ∨ r = 1 := by omega
      · rw [if_pos rfl]
        rfl
      · rw [if_neg (by decide)]
        rfl

end Sys2Proof.MinutesStream
end

section
/-! PROOFS. Orders, answers and notices (chapter 10): the bodies of the orders and the cells on the wire, the arrival of an
order, and the orders on the notice set. What the wire's fields read as comes first, then each part with the statements it
settles. -/

namespace Sys2Proof.OrdersAndNotices

open Sys2Proof Sys2Proof.Machine Sys2Proof.MicrophoneChannels Sys2Proof.MixEngine Sys2Proof.ContentShare
open Sys2Proof.SeatPanels Sys2Proof.MinutesStream

/-! ### Fields read back (R196) -/

theorem toNat_byte {n : Nat} (h : n < 256) : (byte n).toNat = n := Nat.mod_eq_of_lt h

theorem toNat_word {n : Nat} (h : n < 65536) : (byte (n / 256)).toNat * 256 + (byte n).toNat = n := by
  simp only [byte, BitVec.toNat_ofNat]
  omega

theorem toNat_long {n : Nat} (h : n < 4294967296) :
    ((byte (n / 16777216)).toNat * 256 + (byte (n / 65536)).toNat) * 65536 +
      ((byte (n / 256)).toNat * 256 + (byte n).toNat) = n := by
  simp only [byte, BitVec.toNat_ofNat]
  omega

@[simp] theorem u8_cons_zero (x : Byte) (f : List Byte) : u8 (x :: f) 0 = x.toNat := rfl

@[simp] theorem u8_cons_succ (x : Byte) (f : List Byte) (i : Nat) : u8 (x :: f) (i + 1) = u8 f i := rfl

/-- A reader skips what stands ahead of its position. -/
theorem u8_append (l f : List Byte) (i : Nat) : u8 (l ++ f) (l.length + i) = u8 f i := by
  simp [u8, List.getD_eq_getElem?_getD, List.getElem?_append_right]

theorem profileAt_append (l f : List Byte) (i : Nat) : profileAt (l ++ f) (l.length + i) = profileAt f i := by
  simp only [profileAt, u16, Nat.add_assoc, u8_append]

theorem profileAt_bytes {p : RawProfile} (fits : p.wellFormed = true) (f : List Byte) :
    profileAt (p.bytes ++ f) 0 = p := by
  simp only [RawProfile.wellFormed, Bool.and_eq_true, fits8, fits16, decide_eq_true_eq] at fits
  simp [profileAt, u16, RawProfile.bytes, bytes2, fits, toNat_byte, toNat_word]

theorem bookingAt_append (l f : List Byte) (i : Nat) : bookingAt (l ++ f) (l.length + i) = bookingAt f i := by
  simp only [bookingAt, profileAt, u32, u16, Nat.add_assoc, u8_append]

theorem bookingAt_bytes {b : RawBooking} (fits : b.wellFormed = true) : bookingAt b.bytes 0 = b := by
  simp only [RawBooking.wellFormed, Bool.and_eq_true, fits8, fits16, fits32, decide_eq_true_eq] at fits
  obtain ⟨⟨⟨⟨startAt, endAt⟩, organiser⟩, plan⟩, profile⟩ := fits
  have carried : profileAt b.bytes 11 = b.profile := by
    have skipped := profileAt_append (bytes4 b.startAt ++ bytes4 b.endAt ++ bytes2 b.organiser ++ [byte b.plan])
      (b.profile.bytes ++ []) 0
    rw [profileAt_bytes profile, List.append_nil] at skipped
    exact skipped
  unfold bookingAt
  rw [carried]
  simp [u32, u16, RawBooking.bytes, bytes4, bytes2, toNat_byte, toNat_word, toNat_long, startAt, endAt, organiser, plan]

theorem seatSetAt_append (l f : List Byte) (i : Nat) : seatSetAt (l ++ f) (l.length + i) = seatSetAt f i := by
  rw [seatSetAt, List.drop_length_add_append, seatSetAt]

@[simp] theorem length_seatSetBytes (x : SeatSet) : (seatSetBytes x).length = 10 := by simp [seatSetBytes]

/-- The last `m` bytes of a seat set, read back: the seats from bit `8 * k` on. -/
theorem getLsbD_foldr_seatSet (x : SeatSet) (j : Nat) (hj : j < 80) (m k : Nat) :
    (((List.range' k m).map fun i => x.extractLsb' (8 * i) 8).foldr
      (fun y (acc : SeatSet) => (acc <<< 8) ||| y.setWidth 80) 0).getLsbD j =
      (decide (j < 8 * m) && x.getLsbD (8 * k + j)) := by
  induction m generalizing k j with
  | zero => simp
  | succ m ih =>
      simp only [List.range'_succ, List.map_cons, List.foldr_cons, BitVec.getLsbD_or, BitVec.getLsbD_shiftLeft,
        BitVec.getLsbD_setWidth, BitVec.getLsbD_extractLsb', hj, decide_true, Bool.true_and]
      by_cases low : j < 8
      · have : j < 8 * (m + 1) := by omega
        simp [low, this]
      · have shift : 8 * (k + 1) + (j - 8) = 8 * k + j := by omega
        have bound : (j - 8 < 8 * m) = (j < 8 * (m + 1)) := propext (by omega)
        rw [ih (j - 8) (by omega), shift]
        simp [low, bound]

theorem seatSetAt_bytes (x : SeatSet) (f : List Byte) : seatSetAt (seatSetBytes x ++ f) 0 = x := by
  have front : ((seatSetBytes x ++ f).drop 0).take 10 = seatSetBytes x := by
    rw [List.drop_zero, List.take_left' (length_seatSetBytes x)]
  apply BitVec.eq_of_getLsbD_eq
  intro j hj
  rw [seatSetAt, front, seatSetBytes, List.range_eq_range', getLsbD_foldr_seatSet x j hj]
  simp [hj]

theorem targetsAt_append (l f : List Byte) (i : Nat) : targetsAt (l ++ f) (l.length + i) = targetsAt f i := by
  have size : (l ++ f).length = l.length + f.length := List.length_append
  have read : u8 (l ++ f) (l.length + i + 1) = u8 f (i + 1) := by rw [Nat.add_assoc, u8_append]
  have rest : (l ++ f).drop (l.length + i + 2) = f.drop (i + 2) := by simp [List.drop_append, Nat.add_assoc]
  have fit : ((l ++ f).length = l.length + i + 2 + u8 f (i + 1) ∧ l.length + i + 2 ≤ (l ++ f).length) ↔
      (f.length = i + 2 + u8 f (i + 1) ∧ i + 2 ≤ f.length) := by omega
  simp only [targetsAt, read, rest, u8_append, fit]

theorem targetsAt_bytes {room : Nat} {t : TargetSet} (fits : t.wellFormed room = true) (small : room < 256) :
    targetsAt t.bytes 0 = some t := by
  simp only [TargetSet.wellFormed, Bool.and_eq_true, fits8, decide_eq_true_eq, List.all_eq_true] at fits
  obtain ⟨⟨form, seats⟩, size⟩ := fits
  have count : (byte t.seats.length).toNat = t.seats.length := toNat_byte (by omega)
  have listed : (t.seats.map byte).map BitVec.toNat = t.seats := by
    rw [List.map_map]
    exact (List.map_congr_left fun n hn => toNat_byte (seats n hn)).trans (List.map_id _)
  have size : t.seats.length + 1 + 1 = 2 + t.seats.length := by omega
  simp [targetsAt, TargetSet.bytes, count, toNat_byte form, listed, size]

/-! ### The bodies of the orders (R199, R200) -/

theorem lt_of_fits8 {n : Nat} (h : fits8 n = true) : n < 256 := of_decide_eq_true h

theorem lt_of_fits16 {n : Nat} (h : fits16 n = true) : n < 65536 := of_decide_eq_true h

theorem seats_le_of_wellFormed {room : Nat} {t : TargetSet} (fits : t.wellFormed room = true) :
    t.seats.length ≤ room := of_decide_eq_true (Bool.and_eq_true_iff.mp fits).2

@[simp] theorem length_bytes2 (n : Nat) : (bytes2 n).length = 2 := rfl

@[simp] theorem length_bytes4 (n : Nat) : (bytes4 n).length = 4 := rfl

@[simp] theorem length_profileBytes (p : RawProfile) : p.bytes.length = 16 := rfl

@[simp] theorem length_bookingBytes (b : RawBooking) : b.bytes.length = 27 := rfl

@[simp] theorem length_targetBytes (t : TargetSet) : t.bytes.length = t.seats.length + 2 := by simp [TargetSet.bytes]

/-- R200: with the two bytes of the common head the fields fit the 32 bytes of a body. -/
theorem fieldBytes_length {i : Instr} (fits : i.wellFormed = true) : i.fieldBytes.length ≤ 30 := by
  cases i with
  | panelPage _ _ t | panelTile _ _ _ _ _ t | panelFill _ _ _ _ _ _ _ t | setClip _ _ _ _ _ t =>
      have room := seats_le_of_wellFormed (Bool.and_eq_true_iff.mp fits).2
      simp [Instr.fieldBytes]
      omega
  | panelText _ _ _ x t =>
      have room := seats_le_of_wellFormed (Bool.and_eq_true_iff.mp fits).2
      have short : x.length ≤ 25 := of_decide_eq_true (Bool.and_eq_true_iff.mp (Bool.and_eq_true_iff.mp fits).1).2
      simp [Instr.fieldBytes]
      omega
  | tileLoad _ _ _ d =>
      have size : d.length = 16 := of_decide_eq_true (Bool.and_eq_true_iff.mp fits).2
      simp [Instr.fieldBytes, size]
  | _ => simp [Instr.fieldBytes]

/-- An order with one byte of fields. -/
theorem parseOrder_one {h : OrderHead} {code n : Nat} {k : Nat → Instr}
    (spells : ∀ f, parseOrder h code f = if f.length = 1 then some (k (u8 f 0)) else none) (fits : fits8 n = true) :
    parseOrder h code [byte n] = some (k n) := by
  rw [spells, u8_cons_zero, toNat_byte (lt_of_fits8 fits)]
  rfl

/-- An order without fields. -/
theorem parseOrder_bare {h : OrderHead} {code : Nat} {i : Instr}
    (spells : ∀ f, parseOrder h code f = if f.length = 0 then some i else none) : parseOrder h code [] = some i :=
  spells []

/-- An order whose fields end with a target set. -/
theorem map_targetsAt {l : List Byte} {room : Nat} {t : TargetSet} {k : TargetSet → Instr}
    (fits : t.wellFormed room = true) (small : room < 256) :
    (targetsAt (l ++ t.bytes) l.length).map k = some (k t) := by
  rw [← Nat.add_zero l.length, targetsAt_append, targetsAt_bytes fits small]
  rfl

theorem parseOrder_loadPlan {h : OrderHead} {plan chair1 chair2 : Nat} {enabled right : SeatSet}
    (fits : (Instr.loadPlan h plan enabled chair1 chair2 right).wellFormed = true) :
    parseOrder h 0x20 (Instr.loadPlan h plan enabled chair1 chair2 right).fieldBytes =
      some (.loadPlan h plan enabled chair1 chair2 right) := by
  simp only [Instr.wellFormed, Bool.and_eq_true, fits8, decide_eq_true_eq] at fits
  obtain ⟨⟨⟨_, plan8⟩, chair8⟩, chair8'⟩ := fits
  have parts : (Instr.loadPlan h plan enabled chair1 chair2 right).fieldBytes =
      [byte plan] ++ seatSetBytes enabled ++ ([byte chair1, byte chair2] ++ seatSetBytes right) := by
    simp [Instr.fieldBytes]
  generalize (Instr.loadPlan h plan enabled chair1 chair2 right).fieldBytes = f at parts ⊢
  have size : f.length = 23 := by simp [parts]
  have named : u8 f 0 = plan := by
    rw [parts]
    exact toNat_byte plan8
  have seats : seatSetAt f 1 = enabled := by
    rw [parts, List.append_assoc]
    exact (seatSetAt_append [byte plan] _ 0).trans (seatSetAt_bytes enabled _)
  have first : u8 f 11 = chair1 := by
    rw [parts]
    exact (u8_append ([byte plan] ++ seatSetBytes enabled) _ 0).trans (toNat_byte chair8)
  have second : u8 f 12 = chair2 := by
    rw [parts]
    exact (u8_append ([byte plan] ++ seatSetBytes enabled) _ 1).trans (toNat_byte chair8')
  have sharing : seatSetAt f 13 = right := by
    rw [parts, ← List.append_assoc, ← List.append_nil (seatSetBytes right)]
    exact (seatSetAt_append ([byte plan] ++ seatSetBytes enabled ++ [byte chair1, byte chair2]) _ 0).trans
      (seatSetAt_bytes right [])
  simp [parseOrder, size, named, seats, first, second, sharing]

theorem parseOrder_loadWalkIn {h : OrderHead} {w : RawWalkIn} (fits : (Instr.loadWalkIn h w).wellFormed = true) :
    parseOrder h 0x22 (Instr.loadWalkIn h w).fieldBytes = some (.loadWalkIn h w) := by
  simp only [Instr.wellFormed, RawWalkIn.wellFormed, Bool.and_eq_true, fits8, decide_eq_true_eq] at fits
  obtain ⟨_, ⟨⟨⟨allowed, plan⟩, profile⟩, length⟩, gap⟩ := fits
  have carried : profileAt (Instr.loadWalkIn h w).fieldBytes 2 = w.profile :=
    (profileAt_append [byte w.allowed, byte w.plan] (w.profile.bytes ++ [byte w.length, byte w.gap]) 0).trans
      (profileAt_bytes profile _)
  have ends (i : Nat) : u8 (Instr.loadWalkIn h w).fieldBytes (18 + i) = u8 [byte w.length, byte w.gap] i :=
    u8_append ([byte w.allowed, byte w.plan] ++ w.profile.bytes) [byte w.length, byte w.gap] i
  have last : u8 (Instr.loadWalkIn h w).fieldBytes 18 = w.length := (ends 0).trans (toNat_byte length)
  have least : u8 (Instr.loadWalkIn h w).fieldBytes 19 = w.gap := (ends 1).trans (toNat_byte gap)
  have front : u8 (Instr.loadWalkIn h w).fieldBytes 0 = w.allowed ∧ u8 (Instr.loadWalkIn h w).fieldBytes 1 = w.plan :=
    ⟨toNat_byte allowed, toNat_byte plan⟩
  have size : (Instr.loadWalkIn h w).fieldBytes.length = 20 := rfl
  simp [parseOrder, size, front, carried, last, least]

theorem parseOrder_panelText {h : OrderHead} {c l : Nat} {x : List Byte} {t : TargetSet}
    (fits : (Instr.panelText h c l x t).wellFormed = true) :
    parseOrder h 0x71 (Instr.panelText h c l x t).fieldBytes = some (.panelText h c l x t) := by
  obtain ⟨front, targets⟩ := Bool.and_eq_true_iff.mp fits
  simp only [Bool.and_eq_true, fits8, decide_eq_true_eq] at front
  obtain ⟨⟨⟨_, canvas⟩, line⟩, short⟩ := front
  have count : (byte x.length).toNat = x.length := toNat_byte (by omega)
  have drawn := map_targetsAt (l := [byte c, byte l, byte x.length] ++ x) (k := .panelText h c l x) targets (by omega)
  have size : ([byte c, byte l, byte x.length] ++ x).length = 3 + x.length := by simp; omega
  rw [size] at drawn
  have room : 3 + x.length ≤ x.length + (t.seats.length + 2) + 1 + 1 + 1 := by omega
  simpa [parseOrder, Instr.fieldBytes, toNat_byte, canvas, line, count, room] using drawn

/-- R200: the fields of an order spell the order again. -/
theorem parseOrder_fieldBytes {i : Instr} {h : OrderHead} {code : Nat} (fits : i.wellFormed = true)
    (head : i.head = some h) (spelt : i.orderCode = some code) : parseOrder h code i.fieldBytes = some i := by
  cases i <;> cases head <;> cases spelt
  case readStation n | forget n | haltSeat n | resumeSeat n | bypass n | unbypass n | clearCall n | readPlan n
    | readBooking n | raiseGrade n | switchPlan n | close n | closeAll n | queueRemove n | readQueue n | readMix n
    | shareGrant n | tileFlip n | readPanel n | setLogMode n =>
      exact parseOrder_one (fun _ => rfl) (Bool.and_eq_true_iff.mp fits).2
  case readWalkIn | readClock | startNow | endNow | extend | readSession | queueClear | readChannels | shareEnd
    | shareClearWaiting | readLog | readStatus | takeNotice | clearNotices | enableBackup | disableBackup
    | clearClockFault | restart =>
      exact parseOrder_bare fun _ => rfl
  case grant | queueInsert | setGain | setLogRange | cancel | setHorizon | adjustSession =>
      simp only [Instr.wellFormed, Bool.and_eq_true, fits8, fits16, fits32, decide_eq_true_eq] at fits
      simp [parseOrder, Instr.fieldBytes, u16, u32, bytes2, bytes4, fits, toNat_byte, toNat_word, toNat_long]
  case eraseBookings guard | setGuard guard | setClock _ guard | lowerHorizon _ guard =>
      have long := toNat_long guard.isLt
      simp only [Instr.wellFormed, Bool.and_eq_true, fits32, decide_eq_true_eq] at fits
      simp [parseOrder, Instr.fieldBytes, u16, u32, bytes4, fits, long, toNat_long]
  case setNoticeMask mask =>
      have word := toNat_word mask.isLt
      simp [parseOrder, Instr.fieldBytes, u16, bytes2, word]
  case loadRingPlan =>
      simp only [Instr.wellFormed, RawRingPlan.wellFormed, Bool.and_eq_true, fits8, fits16, decide_eq_true_eq] at fits
      simp [parseOrder, Instr.fieldBytes, u16, bytes2, fits, toNat_byte, toNat_word]
  case tileLoad =>
      simp only [Instr.wellFormed, Bool.and_eq_true, fits8, decide_eq_true_eq] at fits
      simp [parseOrder, Instr.fieldBytes, fits, toNat_byte]
  case loadPlan plan enabled chair1 chair2 right => exact parseOrder_loadPlan fits
  case loadWalkIn w => exact parseOrder_loadWalkIn fits
  case book b =>
      have carried := bookingAt_bytes (Bool.and_eq_true_iff.mp fits).2
      simp [parseOrder, Instr.fieldBytes, carried]
  case alter id b =>
      obtain ⟨front, booking⟩ := Bool.and_eq_true_iff.mp fits
      have carried : bookingAt (bytes2 id ++ b.bytes) 2 = b :=
        (bookingAt_append (bytes2 id) b.bytes 0).trans (bookingAt_bytes booking)
      have named : u16 (bytes2 id ++ b.bytes) 0 = id := toNat_word (lt_of_fits16 (Bool.and_eq_true_iff.mp front).2)
      simp [parseOrder, Instr.fieldBytes, carried, named]
  case panelPage page t =>
      obtain ⟨front, targets⟩ := Bool.and_eq_true_iff.mp fits
      have drawn := map_targetsAt (l := [byte page]) (k := .panelPage h page) targets (by decide)
      simpa [parseOrder, Instr.fieldBytes, toNat_byte (lt_of_fits8 (Bool.and_eq_true_iff.mp front).2)] using drawn
  case panelText => exact parseOrder_panelText fits
  case panelTile k c x y t =>
      obtain ⟨front, targets⟩ := Bool.and_eq_true_iff.mp fits
      simp only [Bool.and_eq_true, fits8, decide_eq_true_eq] at front
      have drawn := map_targetsAt (l := [byte k, byte c, byte x, byte y]) (k := .panelTile h k c x y) targets
        (by decide)
      simpa [parseOrder, Instr.fieldBytes, toNat_byte, front] using drawn
  case panelFill c x0 x1 y0 y1 k t =>
      obtain ⟨front, targets⟩ := Bool.and_eq_true_iff.mp fits
      simp only [Bool.and_eq_true, fits8, decide_eq_true_eq] at front
      have drawn := map_targetsAt (l := [byte c, byte x0, byte x1, byte y0, byte y1, byte k])
        (k := .panelFill h c x0 x1 y0 y1 k) targets (by decide)
      simpa [parseOrder, Instr.fieldBytes, toNat_byte, front] using drawn
  case setClip x0 x1 y0 y1 t =>
      obtain ⟨front, targets⟩ := Bool.and_eq_true_iff.mp fits
      simp only [Bool.and_eq_true, fits8, decide_eq_true_eq] at front
      have drawn := map_targetsAt (l := [byte x0, byte x1, byte y0, byte y1]) (k := .setClip h x0 x1 y0 y1) targets
        (by decide)
      simpa [parseOrder, Instr.fieldBytes, toNat_byte, front] using drawn

/-- Settles O9: the fields are read back order by order, and fit beside the common head. -/
theorem orderBodiesReadBack : Obligations.OrderBodiesReadBack := by
  intro i h code fits head spelt
  exact ⟨Nat.add_le_add_right (fieldBytes_length fits) 2, parseOrder_fieldBytes fits head spelt⟩

/-! ### Cells read back (R8, R197) -/

/-- What stands in the lane ahead of the check (R197). -/
def front (dest source kind tag : Nat) (body : List Byte) : List Byte :=
  [byte dest, byte source, byte kind, byte tag, byte body.length] ++ body

theorem length_front (dest source kind tag : Nat) (body : List Byte) :
    (front dest source kind tag body).length = body.length + 5 := by
  simp [front]

/-- R8: a cell of a station's kind stands or falls with its check. -/
theorem parseCell_front {dest source tag kind : Nat} {k : InKind} {body : List Byte} (dest8 : dest < 256)
    (source8 : source < 256) (tag8 : tag < 256) (kind8 : kind < 256) (known : inKindOf kind = some k)
    (size : body.length ≤ 32) (c0 c1 : Byte) :
    parseCell (front dest source kind tag body ++ [c0, c1]) =
      if bytes2 (crc16 (front dest source kind tag body)).toNat = [c0, c1] then
        some { dest := dest, source := source, kind := k, tag := tag, body := body }
      else none := by
  have size8 : (byte body.length).toNat = body.length := toNat_byte (by omega)
  have span : (front dest source kind tag body ++ [c0, c1]).length = 7 + body.length := by
    rw [List.length_append, length_front, Nat.add_assoc, Nat.add_comm]
    rfl
  have ahead : (front dest source kind tag body ++ [c0, c1]).length - 2 = (front dest source kind tag body).length := by
    rw [List.length_append]
    rfl
  have counted : u8 (front dest source kind tag body ++ [c0, c1]) 4 = body.length := size8
  unfold parseCell
  rw [ahead, List.take_left, List.drop_left, span, counted]
  by_cases check : bytes2 (crc16 (front dest source kind tag body)).toNat = [c0, c1]
  · rw [if_pos ⟨size, rfl, check⟩, if_pos check]
    simp [front, toNat_byte, dest8, source8, tag8, kind8, known]
  · rw [if_neg fun all => check all.2.2, if_neg check]

/-- Settles O10: the two sides of the check. -/
theorem cellsReadBack : Obligations.CellsReadBack := by
  intro dest source tag kind k body dest8 source8 tag8 kind8 known size
  have reads := parseCell_front dest8 source8 tag8 kind8 known size
  exact ⟨(reads _ _).trans (if_pos rfl), fun c0 c1 other => (reads c0 c1).trans (if_neg other)⟩

/-! ### The arrival of an order (R187) -/

/-- Every order's command is its run by the owner that its code names (section 10.3, log 3). -/
theorem exec_order {i : Instr} {h : OrderHead} {code : Nat} (head : i.head = some h) (spelt : i.orderCode = some code) :
    ∃ owner : State → Reply, ∀ s, exec i s = .next (runOrder i h code owner s) := by
  cases i <;> cases head <;> cases spelt <;> exact ⟨_, fun _ => rfl⟩

theorem orderCode_known {i : Instr} {code : Nat} (spelt : i.orderCode = some code) :
    orderCodes.contains code = true := by
  cases i <;> cases spelt <;> rfl

/-- R187, check 1. -/
theorem arrivalStatus_noRight {s : State} {o : OrderCell} (right : ¬(o.source = 81 ∧ present s 81 = true))
    (shaped : Bool) : arrivalStatus s o shaped = some .noRight := by
  have barred : (!(decide (o.source = 81) && present s 81)) = true := by
    simpa [-not_and, Decidable.not_and_iff_or_not] using right
  exact if_pos barred

/-- R187, checks 3 and 4 of an order whose code is known, from a PRESENT room station. -/
theorem arrivalStatus_known {s : State} {o : OrderCell} (source : o.source = 81) (here : present s 81 = true)
    (known : orderCodes.contains o.code = true) (shaped : Bool) :
    arrivalStatus s o shaped =
      if shaped = true ∧ o.part < partsOf o.code then
        if Config.maxInbound ≤ s.orders.inbound.length then some .busy else none
      else some .malformed := by
  unfold arrivalStatus
  rw [source, here, known]
  cases shaped <;> by_cases part : o.part < partsOf o.code <;> simp [part]

/-- An order that is refused at arrival is answered, and nothing is carried out. -/
theorem runOrder_refused_at_arrival {i : Instr} {h : OrderHead} {code : Nat} {s : State} {status : Status}
    (run : mainRunning s = true) (behind : s.orders.inbound.head? ≠ some i)
    (refused : arrivalStatus s { source := h.source, tag := h.tag, code := code, part := h.part } i.wellFormed =
      some status) (owner : State → Reply) :
    runOrder i h code owner s = settle (answerRefusal { source := h.source, tag := h.tag, code := code, part := h.part }
      status s) := by
  have arrives : arriveOrder i h code s =
      answerRefusal { source := h.source, tag := h.tag, code := code, part := h.part } status s := by
    simp only [arriveOrder, refused]
  have waits : atHead i s = false := decide_eq_false behind
  have still : atHead i (answerRefusal { source := h.source, tag := h.tag, code := code, part := h.part } status s) =
      false := waits
  simp only [runOrder, run, if_true, waits, Bool.false_eq_true, if_false, arrives, still]

/-- An order that is taken at arrival and finds the queue empty is carried out. -/
theorem runOrder_taken_at_arrival {i : Instr} {h : OrderHead} {code : Nat} {s : State} (run : mainRunning s = true)
    (empty : s.orders.inbound = [])
    (taken : arrivalStatus s { source := h.source, tag := h.tag, code := code, part := h.part } i.wellFormed = none)
    (owner : State → Reply) :
    runOrder i h code owner s =
      runOrder i h code owner { s with orders := { s.orders with inbound := [i] } } := by
  have arrives : arriveOrder i h code s = { s with orders := { s.orders with inbound := [i] } } := by
    simp only [arriveOrder, taken, enqueueOrder, empty, List.nil_append]
    rfl
  have waits : atHead i s = false := by simp [atHead, empty]
  have ready : Ready i { s with orders := { s.orders with inbound := [i] } } := ⟨run, rfl⟩
  have heads : atHead i { s with orders := { s.orders with inbound := [i] } } = true := decide_eq_true rfl
  rw [runOrder_ready ready]
  simp only [runOrder, run, if_true, waits, Bool.false_eq_true, if_false, arrives, heads]

/-- Settles O11: with the queue empty the order stands at its head when it has arrived. -/
theorem arrivingOrderIsCarriedOut : Obligations.ArrivingOrderIsCarriedOut := by
  intro i h code s run empty head spelt fits source here part
  obtain ⟨owner, runs⟩ := exec_order head spelt
  have room : ¬Config.maxInbound ≤ s.orders.inbound.length := by simp [empty, Config.maxInbound]
  have taken := arrivalStatus_known (o := { source := h.source, tag := h.tag, code := code, part := h.part }) source
    here (orderCode_known spelt) i.wellFormed
  rw [if_pos ⟨fits, part⟩, if_neg room] at taken
  rw [runs, runs, runOrder_taken_at_arrival run empty taken]

/-- Settles O12: the three checks, one after the other. -/
theorem arrivalRefusals : Obligations.ArrivalRefusals := by
  intro i h code s run behind head spelt answer
  obtain ⟨owner, runs⟩ := exec_order head spelt
  have refusal (status : Status) (refused : arrivalStatus s
      { source := h.source, tag := h.tag, code := code, part := h.part } i.wellFormed = some status) :
      exec i s = answer status := by
    rw [runs, runOrder_refused_at_arrival run behind refused]
    rfl
  have known (source : h.source = 81) (here : present s 81 = true) :=
    arrivalStatus_known (o := { source := h.source, tag := h.tag, code := code, part := h.part }) source here
      (orderCode_known spelt) i.wellFormed
  refine ⟨fun right => ?_, fun source here misfit => ?_, fun source here fits part full => ?_⟩
  · exact refusal .noRight (arrivalStatus_noRight right _)
  · have bad : ¬(i.wellFormed = true ∧ h.part < partsOf code) := by
      rintro ⟨fits, part⟩
      rcases misfit with unfit | beyond
      · exact absurd (unfit.symm.trans fits) (by decide)
      · exact Nat.not_lt.mpr beyond part
    exact refusal .malformed ((known source here).trans (if_neg bad))
  · refine refusal .busy ((known source here).trans ?_)
    exact (if_pos ⟨fits, part⟩).trans (if_pos full)

/-! ### The orders on the notice set (R190 to R194) -/

theorem exec_takeNotice (h : OrderHead) (s : State) :
    exec (.takeNotice h) s = .next (runOrder (.takeNotice h) h 0x92 takeNoticeOrder s) := rfl

theorem exec_clearNotices (h : OrderHead) (s : State) :
    exec (.clearNotices h) s = .next (runOrder (.clearNotices h) h 0x93 clearNoticesOrder s) := rfl

theorem exec_setNoticeMask (h : OrderHead) (m : BitVec 16) (s : State) : exec (.setNoticeMask h m) s =
    .next (runOrder (.setNoticeMask h m) h 0x91 (setNoticeMaskOrder m) s) := rfl

theorem highestCause_le (s : State) : highestCause s ≤ 11 := by
  unfold highestCause
  cases found : (List.range' 1 11).find? fun n => causePending s n && !causeMasked s n with
  | none => exact Nat.zero_le _
  | some n =>
      have listed := List.mem_range'_1.mp (List.mem_of_find?_eq_some found)
      exact Nat.le_of_lt_succ listed.2

@[simp] theorem offerAlert_starts (s : State) : (offerAlert s).orders.starts = s.orders.starts := by
  unfold offerAlert
  split <;> rfl

@[simp] theorem offerAlert_notices (s : State) : (offerAlert s).orders.notices = s.orders.notices := by
  unfold offerAlert
  split <;> rfl

@[simp] theorem offerAlert_inbound (s : State) : (offerAlert s).orders.inbound = s.orders.inbound := by
  unfold offerAlert
  split <;> rfl

@[simp] theorem offerAlert_mask (s : State) : (offerAlert s).orders.mask = s.orders.mask := by
  unfold offerAlert
  split <;> rfl

@[simp] theorem highestCause_offerAlert (s : State) : highestCause (offerAlert s) = highestCause s := by
  unfold offerAlert
  split <;> rfl

/-- R192: the ALERT stands behind what waits in its class. -/
theorem offerAlert_class2 (s : State) : (offerAlert s).sched.class2 = s.sched.class2 ++
    if present s 81 = true ∧ highestCause (offerAlert s) ≠ 0 ∧ s.orders.alert = .none then [.alert] else [] := by
  rw [highestCause_offerAlert]
  unfold offerAlert
  split
  · rfl
  · exact (List.append_nil _).symm

/-- R192: no ALERT goes to a room station that is not PRESENT. -/
theorem offerAlert_absent {s : State} (gone : present s 81 = false) : offerAlert s = s :=
  if_neg fun due => Bool.false_ne_true (gone.symm.trans due.1)

/-- R193: a cause has been taken, `u` being what its owner has made; the ANSWER is offered, and then the next ALERT. -/
theorem takeNotice_runs {h : OrderHead} {s u : State} {result : List Byte} (ready : Ready (.takeNotice h) s)
    (part : h.part = 0)
    (taken : takeNoticeOrder s = { state := u, status := Status.done, result := result, follow := Follow.alert })
    (frame : FloorFrame s u) (sched : u.sched = s.sched) (alert : u.orders.alert = s.orders.alert) :
    ∃ t, exec (.takeNotice h) s = .next (settle t) ∧ t = offerAlert (withAnswer h 0x92 .done result u) ∧
      t.sched.class2 = s.sched.class2 ++ [.answer
          { dest := h.source, tag := h.tag, code := 0x92, status := .done, part := 0, parts := 1,
            result := result.take 28 }] ++
        (if present s 81 = true ∧ highestCause t ≠ 0 ∧ s.orders.alert = .none then [.alert] else []) := by
  refine ⟨offerAlert (withAnswer h 0x92 .done result u), ?_, rfl, ?_⟩
  · rw [exec_takeNotice, runOrder_ready ready]
    simp only [carryOut, taken]
    rfl
  · have here : present (withAnswer h 0x92 .done result u) 81 = present s 81 := present_of_floorFrame frame 81
    rw [offerAlert_class2, here]
    simp only [withAnswer, part, sched, alert]
    rfl

theorem takeNoticeOrder_none {s : State} (quiet : highestCause s = 0) :
    takeNoticeOrder s = done [0, 0, 0, 0, 0] s := if_pos quiet

theorem takeNoticeOrder_start {s : State} {c : StartCause} {rest : List StartCause} (highest : highestCause s = 1)
    (starts : s.orders.starts = c :: rest) : takeNoticeOrder s =
      { state := s.setOrders { s.orders with starts := rest }, status := .done,
        result := [1, byte c.code, 0, 0, byte (rest.length + 1)], follow := .alert } := by
  simp only [takeNoticeOrder, highest, starts]
  rfl

theorem takeNoticeOrder_cause {s : State} (highest : 2 ≤ highestCause s) : takeNoticeOrder s =
    { state := setNotice (highestCause s) { noticeAt s (highestCause s) with pending := false, count := 0 } s,
      status := .done,
      result := noticeBytes (highestCause s) (noticeAt s (highestCause s)).event (noticeAt s (highestCause s)).value
        (noticeAt s (highestCause s)).count,
      follow := .alert } :=
  (if_neg (by omega)).trans (if_neg (by omega))

theorem setNotice_sched (n : Nat) (x : Notice) (s : State) : (setNotice n x s).sched = s.sched := by
  unfold setNotice
  split <;> rfl

theorem setNotice_starts (n : Nat) (x : Notice) (s : State) : (setNotice n x s).orders.starts = s.orders.starts := by
  unfold setNotice
  split <;> rfl

theorem setNotice_inbound (n : Nat) (x : Notice) (s : State) : (setNotice n x s).orders.inbound = s.orders.inbound := by
  unfold setNotice
  split <;> rfl

theorem setNotice_alert (n : Nat) (x : Notice) (s : State) : (setNotice n x s).orders.alert = s.orders.alert := by
  unfold setNotice
  split <;> rfl

/-- R194: causes 1 to 3 have no bit in the mask that is put in force. -/
theorem getLsbD_maskOf (m : BitVec 16) {n : Nat} (low : 1 ≤ n) (high : n ≤ 3) : (maskOf m).getLsbD (n - 1) = false := by
  obtain rfl | rfl | rfl : n = 1 ∨ n = 2 ∨ n = 3 := by omega
  all_goals simp [maskOf]

/-- R194: where nothing is unmasked that could alert, the mask alone changes. -/
theorem storeMask_quiet {m : BitVec 16} {s : State} (quiet : highestCause s ≠ 0 ∨ present s 81 = false) :
    storeMask m s = { s with orders := { s.orders with mask := maskOf m } } := by
  unfold storeMask
  dsimp only
  split
  · rename_i none_before
    have gone := quiet.resolve_left (not_not_intro none_before)
    exact offerAlert_absent (s := s.setOrders { s.orders with mask := maskOf m }) gone
  · rfl

theorem storeMask_mask (m : BitVec 16) (s : State) : (storeMask m s).orders.mask = maskOf m := by
  unfold storeMask
  dsimp only
  split
  · exact offerAlert_mask _
  · rfl

/-- Settles O39: TAKE NOTICE with no cause, with one of 2 to 11 and with START; then the two other orders. -/
theorem noticeOrders : Obligations.NoticeOrders := by
  intro h m s
  refine ⟨fun ready part => ⟨fun quiet => ?_, fun n highest low => ?_, fun c rest highest starts => ?_⟩,
    fun ready => ?_, fun ready => ?_⟩
  · rw [exec_takeNotice, runOrder_done ready h 0x92 (takeNoticeOrder_none quiet)]
  · subst highest
    have range : 2 ≤ highestCause s ∧ highestCause s ≤ 11 := ⟨low, highestCause_le s⟩
    obtain ⟨t, runs, made, class2⟩ := takeNotice_runs ready part (takeNoticeOrder_cause low)
      (setNotice_floorFrame _ _ s) (setNotice_sched _ _ s) (setNotice_alert _ _ s)
    have notices (k : Nat) : noticeAt t k = noticeAt (setNotice (highestCause s)
        { noticeAt s (highestCause s) with pending := false, count := 0 } s) k := by
      rw [made, noticeAt_offerAlert]
      rfl
    have cleared := (notices (highestCause s)).trans (noticeAt_setNotice_self range _ s)
    have frame : FloorFrame s t := by
      rw [made]
      exact ((setNotice_floorFrame _ _ s).trans (withAnswer_floorFrame _ _ _ _ _)).trans (offerAlert_floorFrame _)
    obtain ⟨_, _, _, hold, _, _, _, ctx, _⟩ := frame
    refine ⟨t, runs, class2, ?_, ?_, fun k other => ?_, ?_, ?_, hold, ctx⟩
    · rw [cleared]
    · rw [cleared]
    · exact (notices k).trans (noticeAt_setNotice_ne other _ s)
    · rw [made, offerAlert_starts]
      exact setNotice_starts _ _ s
    · rw [made, offerAlert_inbound]
      exact congrArg List.tail (setNotice_inbound _ _ s)
  · obtain ⟨t, runs, made, class2⟩ := takeNotice_runs ready part (takeNoticeOrder_start highest starts)
      (setOrders_floorFrame s _) rfl rfl
    refine ⟨t, runs, ?_, ?_, class2⟩
    · rw [made, offerAlert_starts]
      rfl
    · rw [made, offerAlert_notices]
      rfl
  · rw [exec_clearNotices, runOrder_done ready h 0x93 (result := []) (t := clearAllNotices s) rfl]
    rfl
  · have runs : exec (.setNoticeMask h m) s =
        .next (answered h 0x91 .done (bytes2 (maskOf m).toNat) (storeMask m s)) := by
      rw [exec_setNoticeMask, runOrder_done ready h 0x91 (result := bytes2 (maskOf m).toNat) (t := storeMask m s) rfl]
    obtain ⟨_, _, _, _, _, _, _, _, _, _, _, _, settled, _⟩ :=
      settle_arbiterFrame (withAnswer h 0x91 .done (bytes2 (maskOf m).toNat) (storeMask m s))
    have mask : (answered h 0x91 .done (bytes2 (maskOf m).toNat) (storeMask m s)).orders.mask = maskOf m :=
      settled.trans (storeMask_mask m s)
    refine ⟨_, runs, mask, fun n low high => ?_, fun quiet => ?_⟩
    · rw [causeMasked, mask, getLsbD_maskOf m low high]
    · rw [storeMask_quiet quiet]
      rfl

end Sys2Proof.OrdersAndNotices
end

section
/-! PROOFS. The cells that a returning frame brings, and the outcome of a MINUTE (chapters 1, 9 and 10). What the work of the
floor leaves of the minutes queue and of the STATION cause comes first, then what surrounds the lane of a returned frame,
then each kind of cell; the one statement is settled from them. -/

namespace Sys2Proof.OrdersAndNotices

open Sys2Proof Sys2Proof.Machine Sys2Proof.MicrophoneChannels Sys2Proof.MixEngine Sys2Proof.ContentShare
open Sys2Proof.SeatPanels Sys2Proof.MinutesStream

/-! ### What the floor's work leaves of the minutes queue and of the STATION cause

A departure and an occasion for auto-open or handover put records to the minutes unit and raise LOG and PANEL notices. -/

/-- Records may have joined the minutes queue at its tail, and the notice of cause 7, STATION, stands. -/
structure FloorWork (s t : State) : Prop where
  records : s.minutes.queue <+: t.minutes.queue
  notice : noticeAt t 7 = noticeAt s 7

theorem FloorWork.refl (s : State) : FloorWork s s := ⟨List.prefix_rfl, rfl⟩

theorem FloorWork.trans {s t u : State} (a : FloorWork s t) (b : FloorWork t u) : FloorWork s u :=
  ⟨a.records.trans b.records, b.notice.trans a.notice⟩

theorem FloorWork.ite {s t u : State} {c : Prop} [Decidable c] (a : FloorWork s t) (b : FloorWork s u) :
    FloorWork s (if c then t else u) := by
  split <;> assumption

theorem FloorWork.foldl {α : Type} {f : State → α → State} (works : ∀ s x, FloorWork s (f s x)) (l : List α)
    (s : State) : FloorWork s (l.foldl f s) := by
  induction l generalizing s with
  | nil => exact .refl s
  | cons x l ih => exact (works s x).trans (ih (f s x))

theorem FloorWork.of_queue {s t : State} (queue : t.minutes.queue = s.minutes.queue) (orders : t.orders = s.orders) :
    FloorWork s t :=
  ⟨queue ▸ List.prefix_rfl, by simp only [noticeAt, orders]⟩

theorem FloorWork.of_arbiterFrame {s t : State} (a : ArbiterFrame s t) : FloorWork s t := by
  obtain ⟨_, _, _, _, minutes, _, _, _, _, _, _, _, _, notice⟩ := a
  exact ⟨minutes ▸ List.prefix_rfl, notice 7 (by decide)⟩

theorem setShare_work (s : State) (x) : FloorWork s (s.setShare x) := .of_queue rfl rfl

theorem setChan_work (s : State) (x) : FloorWork s (s.setChan x) := .of_queue rfl rfl

theorem setQueue_work (s : State) (x) : FloorWork s (s.setQueue x) := .of_queue rfl rfl

theorem markLists_work (pages : List Page) (s : State) : FloorWork s (markLists pages s) := .of_queue rfl rfl

theorem markLamp_work (n : Nat) (s : State) : FloorWork s (markLamp n s) := .of_arbiterFrame (markLamp_arbiterFrame n s)

theorem offerMark_work (m : Mark) (s : State) : FloorWork s (offerMark m s) := by
  unfold offerMark
  exact .ite (.refl s) (.of_queue rfl rfl)

theorem num_ne_station {c : Cause} (other : c ≠ .station) : c.num ≠ 7 := by
  cases c <;> simp [Cause.num] at other ⊢

theorem raise_work {c : Cause} (other : c ≠ .station) (event value : Nat) (s : State) :
    FloorWork s (raise c event value s) where
  records := raise_minutes c event value s ▸ List.prefix_rfl
  notice := noticeAt_raise_ne c event value s (num_ne_station other).symm

/-! The minutes unit. -/

theorem offerMinute_orders (s : State) : (offerMinute s).orders = s.orders := by
  unfold offerMinute
  split
  · rfl
  · split <;> rfl

theorem offerMinute_work (s : State) : FloorWork s (offerMinute s) :=
  .of_queue (offerMinute_records s).1 (offerMinute_orders s)

theorem appendRecord_work (r : RecRequest) (s : State) : FloorWork s (appendRecord r s) := by
  obtain ⟨x, _, queue, _⟩ := appendRecord_appends r s
  refine ⟨queue ▸ List.prefix_append _ _, ?_⟩
  exact (offerMinute_work _).notice

theorem admitRecord_work (r : RecRequest) (s : State) : FloorWork s (admitRecord r s) := by
  have gap : FloorWork s (fitGap r.kind s) := by
    unfold fitGap
    exact .ite ((appendRecord_work _ s).trans (.of_queue rfl rfl)) (.refl s)
  have counted : FloorWork s (s.setMinutes { s.minutes with drop := bump 65535 s.minutes.drop }) := .of_queue rfl rfl
  have dropped : FloorWork s (dropRecord r.kind s) := by
    unfold dropRecord
    exact .ite (counted.trans (raise_work (by decide) _ _ _)) counted
  unfold admitRecord
  exact .ite (.refl s) (.ite (gap.trans (appendRecord_work r _)) dropped)

/-! The share controller. -/

theorem announceLane_work (n : Nat) (s : State) :
    FloorWork s (markLists [.share] (offerMark .laneBridge (offerMark (.laneSeat n) s))) :=
  ((offerMark_work _ s).trans (offerMark_work _ _)).trans (markLists_work _ _)

theorem leaveWaiting_work (n : Nat) (s : State) : FloorWork s (leaveWaiting n s) := .of_queue rfl rfl

theorem grantLane_work (n : Nat) (cause : Reason) (s : State) : FloorWork s (grantLane n cause s) := by
  unfold grantLane
  exact (((setShare_work s _).trans (leaveWaiting_work n _)).trans (admitRecord_work _ _)).trans (announceLane_work n _)

theorem handoverGo_work (l : List Nat) (s : State) : FloorWork s (handoverGo l s) := by
  induction l generalizing s with
  | nil => exact .refl s
  | cons n l ih =>
      unfold handoverGo
      exact .ite ((leaveWaiting_work n s).trans (ih _)) (.ite (grantLane_work n _ s)
        (.ite (.refl s) ((setShare_work s _).trans (raise_work (by decide) _ _ _))))

theorem handover_work (s : State) : FloorWork s (handover s) := .ite (handoverGo_work _ s) (.refl s)

theorem endShare_work (reason : Reason) (s : State) : FloorWork s (endShare reason s) := by
  have ended : FloorWork s (endShareOnly reason s) := by
    unfold endShareOnly
    split
    · exact .refl s
    · exact ((admitRecord_work _ s).trans (setShare_work _ _)).trans (announceLane_work _ _)
  unfold endShare
  split
  · exact .refl s
  · exact ended.trans (handover_work _)

theorem shareMicClosed_work (n : Nat) (s : State) : FloorWork s (shareMicClosed n s) := by
  have grace : FloorWork s (startGrace s) := by
    unfold startGrace
    split
    · exact .ite (endShare_work _ s) (.of_queue rfl rfl)
    · exact .refl s
  exact .ite grace (.refl s)

theorem shareMicOpened_work (n : Nat) (s : State) : FloorWork s (shareMicOpened n s) :=
  .ite (.of_queue rfl rfl) (.refl s)

theorem shareLeave_work (n : Nat) (reason : Reason) (s : State) : FloorWork s (shareLeave n reason s) :=
  .trans (.ite (endShare_work reason s) (.refl s)) (leaveWaiting_work n _)

/-! The channels and the request queue. -/

theorem queueLeave_work (n : Nat) (s : State) : FloorWork s (queueLeave n s) := by
  have left : FloorWork s ((s.setQueue (s.queue.erase n)).setChan
      { s.chan with deferred := if s.chan.deferred = some n then none else s.chan.deferred }) :=
    (setQueue_work s _).trans (setChan_work _ _)
  unfold queueLeave
  dsimp only
  split
  · exact (left.trans (markLamp_work _ _)).trans (markLists_work _ _)
  · exact left.trans (markLists_work _ _)

/-- What an open and a close of a microphone end with (R97, R99). -/
theorem announceMic_work (n : Nat) (s : State) :
    FloorWork s (markLists [.speakers] (markLamp n (offerMark (.mic n) s))) :=
  ((offerMark_work _ s).trans (markLamp_work n _)).trans (markLists_work _ _)

theorem openMic_work (n : Nat) (cat : Category) (cause : Reason) (s : State) :
    FloorWork s (openMic n cat cause s) := by
  unfold openMic
  split
  · have left (t : State) (held : FloorWork s t) :
        FloorWork s (if t.queue.contains n then queueLeave n t else t) := .ite (held.trans (queueLeave_work n t)) held
    exact (((left _ ((setChan_work s _).trans (setChan_work _ _))).trans (admitRecord_work _ _)).trans
      (announceMic_work n _)).trans (shareMicOpened_work n _)
  · exact .refl s

theorem autoOpenGo_work (fuel : Nat) (s : State) : FloorWork s (autoOpenGo fuel s) := by
  induction fuel generalizing s with
  | zero => exact .refl s
  | succ fuel ih =>
      unfold autoOpenGo
      split
      · exact .refl s
      · exact .ite (.refl s) (.ite ((openMic_work _ _ _ s).trans (ih _))
          (.ite (.refl s) ((setChan_work s _).trans (raise_work (by decide) _ _ _))))

theorem autoOpen_work (s : State) : FloorWork s (autoOpen s) := .ite (autoOpenGo_work _ s) (.refl s)

theorem closeMic_work (n : Nat) (reason : Reason) (s : State) : FloorWork s (closeMic n reason s) := by
  have entry : FloorWork s (closeEntry n reason s) := by
    unfold closeEntry
    split
    · exact .refl s
    · split
      · exact .refl s
      · exact (((admitRecord_work _ s).trans (setChan_work _ _)).trans (setChan_work _ _)).trans (announceMic_work n _)
  have only : FloorWork s (closeMicOnly n reason s) := by
    unfold closeMicOnly
    split
    · exact .refl s
    · exact entry.trans (shareMicClosed_work n _)
  unfold closeMic
  split
  · exact .refl s
  · exact only.trans (autoOpen_work _)

theorem withdraw_work (n : Nat) (reason : Reason) (s : State) : FloorWork s (withdraw n reason s) := by
  have only : FloorWork s (withdrawOnly n reason s) :=
    ((queueLeave_work n s).trans (admitRecord_work _ _)).trans (markLamp_work n _)
  exact .ite (.ite (only.trans (autoOpen_work _)) only) (.refl s)

theorem releasePriority_work (n : Nat) (s : State) : FloorWork s (releasePriority n s) := by
  have cleared (t : State) : FloorWork t (suppressAll false t) := by
    unfold suppressAll
    exact .ite (.refl t) (((setChan_work t _).trans
      (.foldl (fun u (e : Channel) => markLamp_work e.seat u) _ _)).trans (markLists_work _ _))
  unfold releasePriority
  exact .ite (.ite (((setChan_work s _).trans (setChan_work _ _)).trans ((cleared _).trans (autoOpen_work _)))
    (setChan_work s _)) (.refl s)

/-! A departure. -/

theorem dropTarget_arbiterFrame (n : Nat) (s : State) : ArbiterFrame s (dropTarget n s) := by
  have dropTo (j : Job) (t : State) : ArbiterFrame t (dropTo j t) :=
    .ite ((setPanel_arbiterFrame t _).trans (settleJob_arbiterFrame 3 _)) (setPanel_arbiterFrame t _)
  have disown : ArbiterFrame s (disownPiece s) := by
    unfold disownPiece
    split
    · exact setPresentation_arbiterFrame s _
    · exact .refl s
  unfold dropTarget
  split
  · exact .refl s
  · exact .ite (.ite (disown.trans (dropTo _ _)) (dropTo _ s)) (.refl s)

theorem panelDepart_work (n : Nat) (s : State) : FloorWork s (panelDepart n s) :=
  .of_arbiterFrame ((setPanelOf_arbiterFrame n _ s).trans (dropTarget_arbiterFrame n _))

theorem depart_work (n : Nat) (s : State) : FloorWork s (depart n s) := by
  unfold depart
  refine FloorWork.ite ?_ (.ite (.of_queue rfl rfl) (.refl s))
  exact ((((shareLeave_work n _ s).trans (closeMic_work n _ _)).trans (withdraw_work n _ _)).trans
    (panelDepart_work n _)).trans (releasePriority_work n _)

/-! ### A frame returns (R6, R7) -/

/-- What surrounds the lane of a returned frame, the ring's count and notice, the formation and the arbiter, leaves this
alone. -/
structure FrameKept (s t : State) : Prop where
  hold : t.hold = s.hold
  ctx : t.ctx = s.ctx
  stn : t.stn = s.stn
  queue : t.queue = s.queue
  share : t.share = s.share
  minutes : t.minutes = s.minutes
  inbound : t.orders.inbound = s.orders.inbound
  class3 : t.sched.class3 = s.sched.class3
  minute : t.sched.minute = s.sched.minute
  notice : noticeAt t 7 = noticeAt s 7

theorem FrameKept.refl (s : State) : FrameKept s s := ⟨rfl, rfl, rfl, rfl, rfl, rfl, rfl, rfl, rfl, rfl⟩

theorem FrameKept.trans {s t u : State} (a : FrameKept s t) (b : FrameKept t u) : FrameKept s u where
  hold := b.hold.trans a.hold
  ctx := b.ctx.trans a.ctx
  stn := b.stn.trans a.stn
  queue := b.queue.trans a.queue
  share := b.share.trans a.share
  minutes := b.minutes.trans a.minutes
  inbound := b.inbound.trans a.inbound
  class3 := b.class3.trans a.class3
  minute := b.minute.trans a.minute
  notice := b.notice.trans a.notice

theorem FrameKept.ite {s t u : State} {c : Prop} [Decidable c] (a : FrameKept s t) (b : FrameKept s u) :
    FrameKept s (if c then t else u) := by
  split <;> assumption

theorem FrameKept.of_arbiterFrame {s t : State} (a : ArbiterFrame s t) : FrameKept s t := by
  obtain ⟨frame, queue, _, share, minutes, _, class3, minute, _, _, inbound, _, _, notice⟩ := a
  obtain ⟨_, _, _, hold, _, stn, _, ctx, _⟩ := frame
  exact ⟨hold, ctx, stn, queue, share, minutes, inbound, class3, minute, notice 7 (by decide)⟩

theorem FrameKept.station {s t : State} (a : FrameKept s t) (n : Nat) : station t n = station s n := by
  simp only [Machine.station, a.stn]

theorem FrameKept.present {s t : State} (a : FrameKept s t) (n : Nat) : present t n = present s n := by
  simp only [Machine.present, a.station]

theorem setNotice_frameKept {n : Nat} (other : n ≠ 7) (x : Notice) (s : State) : FrameKept s (setNotice n x s) := by
  have notice := noticeAt_setNotice_ne other.symm x s
  obtain ⟨_, _, _, hold, _, stn, _, ctx, _⟩ := setNotice_floorFrame n x s
  have sched := setNotice_sched n x s
  refine ⟨hold, ctx, stn, ?_, ?_, setNotice_minutes n x s, setNotice_inbound n x s, congrArg _ sched, congrArg _ sched,
    notice⟩ <;> unfold setNotice <;> split <;> rfl

theorem raise_frameKept {c : Cause} (other : c ≠ .station) (event value : Nat) (s : State) :
    FrameKept s (raise c event value s) := by
  have entry (x : Notice) : FrameKept s (setNotice c.num x s) :=
    setNotice_frameKept (num_ne_station other) x s
  unfold raise
  exact .ite ((entry _).trans (.of_arbiterFrame (offerAlert_arbiterFrame _))) (entry _)

theorem setRing_frameKept (s : State) (x) : FrameKept s (s.setRing x) :=
  ⟨rfl, rfl, rfl, rfl, rfl, rfl, rfl, rfl, rfl, rfl⟩

theorem restoreRing_frameKept (s : State) : FrameKept s (restoreRing s) :=
  .ite ((setRing_frameKept s _).trans (raise_frameKept (by decide) _ _ _)) (.refl s)

theorem formFor_frameKept (cadence : Cadence) (x : Slots) (s : State) : FrameKept s (formFor cadence x s) := by
  cases cadence
  · exact ⟨rfl, rfl, rfl, rfl, rfl, rfl, rfl, rfl, rfl, rfl⟩
  · exact .refl s

/-- R6, R7: the frame that is out returns; `r` is the state that the cell placed and the lane act on. -/
theorem frameReturn_runs {s : State} {f : Flight} (run : mainRunning s = true) (out : s.ring.flight = some f)
    (unprobed : ∀ u, probeOver f.cell u = u) (lane : List Byte) (x : Slots) :
    ∃ r t, FrameKept s r ∧ exec (.frameReturn f.number lane x) s = .next t ∧
      FrameKept (laneArrives (judgeLane f.cell lane) (placedOutcome f.cell (judgeLane f.cell lane) r)) t := by
  have before : FrameKept s (restoreRing (s.setRing { s.ring with flight := none, failures := 0 })) :=
    (setRing_frameKept s _).trans (restoreRing_frameKept _)
  have runs : exec (.frameReturn f.number lane x) s = .next (settle (returnFrame f lane x s)) := by
    show Host.Outcome.next (inMain _ s) = _
    simp only [inMain, run, if_true, out]
  refine ⟨_, _, before, runs, ?_⟩
  simp only [returnFrame, unprobed]
  exact (formFor_frameKept _ _ _).trans (.of_arbiterFrame (settle_arbiterFrame _))

/-- R7: a frame brings back a station's cell that settles nothing of the controller's own. -/
theorem frameReturn_routes {s : State} {f : Flight} {src kind tag : Nat} {k : InKind} {body : List Byte}
    (run : mainRunning s = true) (out : s.ring.flight = some f)
    (held : f.cell = none ∨ f.cell = some (.station .assign) ∧ k = .join ∧ body ≠ []) (src8 : src < 256)
    (kind8 : kind < 256) (tag8 : tag < 256) (known : inKindOf kind = some k) (size : body.length ≤ 32) (x : Slots) :
    ∃ r t, FrameKept s r ∧ exec (.frameReturn f.number (cellBytes 0 src kind tag body) x) s = .next t ∧
      FrameKept (routeCell { dest := 0, source := src, kind := k, tag := tag, body := body } r) t := by
  have reads := (cellsReadBack 0 src tag kind k body (by decide) src8 tag8 kind8 known size).1
  have good : judgeLane f.cell (cellBytes 0 src kind tag body) =
      .good { dest := 0, source := src, kind := k, tag := tag, body := body } := by
    have other : f.cell.map OutCell.bytes ≠ some (cellBytes 0 src kind tag body) := by
      rcases held with empty | ⟨assign, _, long⟩
      · simp [empty]
      · intro same
        rw [assign] at same
        have lengths := congrArg List.length (Option.some.inj same)
        exact long (by simpa [OutCell.bytes, OutCell.body, StationCell.body, cellBytes] using lengths)
    have filled : cellBytes 0 src kind tag body ≠ [] := by simp [cellBytes]
    simp only [judgeLane, filled, other, if_false, reads]
  obtain ⟨r, t, before, runs, after⟩ := frameReturn_runs run out
    (fun u => by rcases held with empty | ⟨assign, _⟩ <;> simp only [probeOver, *]) (cellBytes 0 src kind tag body) x
  have nothing : placedOutcome f.cell (judgeLane f.cell (cellBytes 0 src kind tag body)) r = r := by
    rw [good]
    rcases held with empty | ⟨assign, joins, _⟩
    · rw [empty]
      rfl
    · rw [assign, joins]
      rfl
  rw [nothing, good] at after
  exact ⟨r, t, before, runs, after⟩

/-! ### An ORDER arrives (R187) -/

theorem setStation_of_pos {n : Nat} (low : 1 ≤ n) (r : Station) (s : State) : setStation n r s =
    s.setStn { s.stn with records := s.stn.records.setIfInBounds (n - 1) r } := if_neg (by omega)

theorem stationGood_of_present {n : Nat} {s : State} (here : present s n = true) :
    stationGood n s = setStation n { station s n with missed := 0 } s := by
  have state : (station s n).state = .present := of_decide_eq_true here
  simp only [stationGood, state]

theorem u8_zero_orderBody {i : Instr} {code : Nat} (spelt : i.orderCode = some code) : u8 i.orderBody 0 = code := by
  have small : code < 256 := by cases i <;> cases spelt <;> decide
  simp [Instr.orderBody, spelt, toNat_byte small]

theorem head_fits {i : Instr} {h : OrderHead} (fits : i.wellFormed = true) (head : i.head = some h) :
    h.wellFormed = true := by
  cases i <;> cases head <;> simp only [Instr.wellFormed, Bool.and_eq_true] at fits <;> simp only [fits]

/-- R187: the body of an order that passes the four checks joins the inbound queue as the order. -/
theorem arriveBody_orderBody {i : Instr} {h : OrderHead} {code : Nat} {s : State} (fits : i.wellFormed = true)
    (head : i.head = some h) (spelt : i.orderCode = some code) (source : h.source = 81) (here : present s 81 = true)
    (part : h.part < partsOf code) (room : s.orders.inbound.length < 4) :
    arriveBody 81 h.tag i.orderBody s = enqueueOrder i s := by
  have head8 := head_fits fits head
  simp only [OrderHead.wellFormed, Bool.and_eq_true, fits8, decide_eq_true_eq] at head8
  have code0 := u8_zero_orderBody spelt
  have part1 : u8 i.orderBody 1 = h.part := by simp [Instr.orderBody, head, toNat_byte head8.2]
  have whole : ({ source := 81, tag := h.tag, part := h.part } : OrderHead) = h := by rw [← source]
  have order : parseOrder { source := 81, tag := h.tag, part := h.part } code (i.orderBody.drop 2) = some i := by
    rw [whole]
    exact parseOrder_fieldBytes fits head spelt
  have long : 2 ≤ i.orderBody.length := by simp [Instr.orderBody]
  have taken := arrivalStatus_known (s := s) (o := { source := 81, tag := h.tag, code := code, part := h.part }) rfl
    here (orderCode_known spelt) true
  have free : ¬Config.maxInbound ≤ s.orders.inbound.length := Nat.not_le.mpr room
  rw [if_pos ⟨rfl, part⟩, if_neg free] at taken
  simp only [arriveBody, code0, part1, long, if_true, order, Option.isSome_some, taken]

/-- R7, R187: an ORDER of the PRESENT room station, brought by a frame with an open lane. -/
theorem frameReturn_order {i : Instr} {h : OrderHead} {code : Nat} {f : Flight} {s : State} (run : mainRunning s = true)
    (out : s.ring.flight = some f) (empty : f.cell = none) (fits : i.wellFormed = true) (head : i.head = some h)
    (spelt : i.orderCode = some code) (source : h.source = 81) (part : h.part < partsOf code)
    (here : present s 81 = true) (room : s.orders.inbound.length < 4) (x : Slots) :
    ∃ t, exec (.frameReturn f.number (cellBytes 0 81 0x24 h.tag i.orderBody) x) s = .next t ∧
      t.orders.inbound = s.orders.inbound ++ [i] ∧ (station t 81).missed = 0 ∧ t.hold = s.hold ∧ t.ctx = s.ctx := by
  have head8 := head_fits fits head
  simp only [OrderHead.wellFormed, Bool.and_eq_true, fits8, decide_eq_true_eq] at head8
  obtain ⟨⟨_, tag8⟩, _⟩ := head8
  obtain ⟨size, _⟩ := orderBodiesReadBack i h code fits head spelt
  obtain ⟨r, t, before, runs, after⟩ := frameReturn_routes (src := 81) (kind := 0x24) run out (.inl empty) (by decide)
    (by decide) tag8 rfl size x
  have good := stationGood_of_present ((before.present 81).trans here)
  have heard : station (stationGood 81 r) 81 = { station r 81 with missed := 0 } := by
    rw [good, station_setStation_self (by decide)]
  have stays : present (stationGood 81 r) 81 = true := by
    rw [present, heard]
    exact (before.present 81).trans here
  rw [setStation_of_pos (by decide)] at good
  have joined : routeCell { dest := 0, source := 81, kind := .order, tag := h.tag, body := i.orderBody } r =
      enqueueOrder i (stationGood 81 r) :=
    arriveBody_orderBody fits head spelt source stays part (by rw [good]; exact before.inbound ▸ room)
  rw [joined] at after
  refine ⟨t, runs, ?_, ?_, ?_, ?_⟩
  · rw [after.inbound, good, ← before.inbound]
    rfl
  · rw [after.station]
    exact congrArg Station.missed heard
  · rw [after.hold, good, ← before.hold]
    rfl
  · rw [after.ctx, good, ← before.ctx]
    rfl

/-! ### A JOIN arrives (R13, R14) -/

theorem stationGood_of_unheard {n : Nat} {s : State}
    (state : (station s n).state = .vacant ∨ (station s n).state = .halted ∨ (station s n).state = .bypassed) :
    stationGood n s = s := by
  rcases state with state | state | state <;> simp only [stationGood, state]

/-- The kind that the code of a JOIN names (R196). -/
def joinKind (k : Nat) : JoinKind := if k = 0 then .seat else .service (80 + k)

theorem joinKindOf_le {k : Nat} (range : k ≤ 3) : joinKindOf k = some (joinKind k) := by
  obtain rfl | rfl | rfl | rfl : k = 0 ∨ k = 1 ∨ k = 2 ∨ k = 3 := by omega
  all_goals rfl

/-- `n` is the lowest seat with the property. -/
def LowestSeat (p : Nat → Prop) (n : Nat) : Prop := 1 ≤ n ∧ n ≤ 80 ∧ p n ∧ ∀ m, 1 ≤ m → m < n → ¬p m

/-- R13: the record holds the identity of the JOIN. -/
def Known (id : Identity) (s : State) (n : Nat) : Prop := (station s n).identity = some id

/-- R13: the record is VACANT and holds no identity. -/
def FreeSeat (s : State) (n : Nat) : Prop := (station s n).state = .vacant ∧ (station s n).identity = none

/-- R13: the number that a JOIN of kind code `k` is given. -/
def GivenNumber (id : Identity) (k n : Nat) (s : State) : Prop :=
  if k = 0 then LowestSeat (Known id s) n ∨ ((∀ m, 1 ≤ m → m ≤ 80 → ¬Known id s m) ∧ LowestSeat (FreeSeat s) n)
  else n = 80 + k

theorem find_lowestSeat {p : Nat → Prop} {q : Nat → Bool} {n : Nat} (agree : ∀ m, q m = true ↔ p m)
    (lowest : LowestSeat p n) : seatNumbers.find? q = some n := by
  obtain ⟨low, high, holds, least⟩ := lowest
  rw [seatNumbers, List.find?_range'_eq_some]
  refine ⟨(agree n).mpr holds, List.mem_range'_1.mpr ⟨low, by omega⟩, fun m first before => ?_⟩
  simpa using mt (agree m).mp (least m first before)

theorem find_noSeat {p : Nat → Prop} {q : Nat → Bool} (agree : ∀ m, q m = true ↔ p m)
    (none_has : ∀ m, 1 ≤ m → m ≤ 80 → ¬p m) : seatNumbers.find? q = none := by
  rw [seatNumbers, List.find?_eq_none]
  intro m listed
  obtain ⟨low, high⟩ := List.mem_range'_1.mp listed
  exact mt (agree m).mp (none_has m low (by omega))

theorem joinNumber_given {id : Identity} {k n : Nat} {s : State} (given : GivenNumber id k n s) :
    joinNumber s id (joinKind k) = some n := by
  have identified (m : Nat) : decide ((station s m).identity = some id) = true ↔ Known id s m := decide_eq_true_iff
  have vacant (m : Nat) : (decide ((station s m).state = .vacant) && (station s m).identity.isNone) = true ↔
      FreeSeat s m := by simp [FreeSeat]
  unfold GivenNumber at given
  unfold joinKind
  split at given
  · rename_i seat
    rw [if_pos seat, joinNumber]
    rcases given with lowest | ⟨unknown, lowest⟩
    · rw [find_lowestSeat identified lowest]
    · rw [find_noSeat identified unknown]
      exact find_lowestSeat vacant lowest
  · rename_i service
    rw [if_neg service, joinNumber, given]

theorem joinNumber_full {id : Identity} {s : State} (full : ∀ m, 1 ≤ m → m ≤ 80 → ¬Known id s m ∧ ¬FreeSeat s m) :
    joinNumber s id .seat = none := by
  have identified (m : Nat) : decide ((station s m).identity = some id) = true ↔ Known id s m := decide_eq_true_iff
  have vacant (m : Nat) : (decide ((station s m).state = .vacant) && (station s m).identity.isNone) = true ↔
      FreeSeat s m := by simp [FreeSeat]
  rw [joinNumber, find_noSeat identified fun m low high => (full m low high).1]
  exact find_noSeat vacant fun m low high => (full m low high).2

theorem GivenNumber.range {id : Identity} {k n : Nat} {s : State} (given : GivenNumber id k n s) (kind : k ≤ 3) :
    (1 ≤ n ∧ n ≤ 83) ∧ isSeat n = decide (k = 0) := by
  unfold GivenNumber at given
  split at given
  · rename_i seat
    obtain ⟨low, high⟩ : 1 ≤ n ∧ n ≤ 80 := by
      rcases given with ⟨low, high, _⟩ | ⟨_, low, high, _⟩ <;> exact ⟨low, high⟩
    exact ⟨⟨low, by omega⟩, by simp [isSeat_of_range low high, seat]⟩
  · rename_i service
    exact ⟨by omega, by simp [isSeat_eq_false (n := n) (by omega), service]⟩

/-- R13, R14: whether record `n` takes the JOIN of the identity. -/
def TakesJoin (id : Identity) (n : Nat) (s : State) : Prop :=
  (station s n).state = .vacant ∨ (station s n).state = .joining ∨ (station s n).state = .silent ∨
    ((station s n).state = .present ∧ Known id s n)

theorem join_of_takes {id : Identity} {k : JoinKind} {n : Nat} {s : State} (number : joinNumber s id k = some n)
    (takes : TakesJoin id n s) (caps : Caps) : join id k caps s = joinTaken n id caps s := by
  rcases takes with state | state | state | ⟨state, known⟩
  · simp only [join, number, state]
  · simp only [join, number, state]
  · simp only [join, number, state]
  · simp only [join, number, state]
    exact if_pos known

theorem join_of_duplicate {id : Identity} {k : JoinKind} {n : Nat} {s : State} (number : joinNumber s id k = some n)
    (barred : ¬TakesJoin id n s) (caps : Caps) : join id k caps s = joinRefused 2 n id s := by
  cases state : (station s n).state with
  | vacant => exact absurd (.inl state) barred
  | joining => exact absurd (.inr (.inl state)) barred
  | silent => exact absurd (.inr (.inr (.inl state))) barred
  | present =>
      have other : ¬(station s n).identity = some id := fun known => barred (.inr (.inr (.inr ⟨state, known⟩)))
      simp only [join, number, state, if_neg other]
  | halted => simp only [join, number, state]
  | bypassed => simp only [join, number, state]

theorem noticeAt_station_raised (event value : Nat) (s : State) :
    (noticeAt (raise .station event value s) 7).pending = true ∧
    (noticeAt (raise .station event value s) 7).event = event ∧
    (noticeAt (raise .station event value s) 7).value = value := by
  have raised := noticeAt_raise_self .station event value s
  change noticeAt (raise .station event value s) 7 = _ at raised
  rw [raised]
  exact ⟨rfl, rfl, rfl⟩

/-- The record of a JOIN that has been taken (R11, R13). -/
def joinedRecord (n : Nat) (id : Identity) (caps : Caps) (r : Station) : Station :=
  { r with identity := some id, caps := if isSeat n then some caps else none, missed := 0, state := .joining }

/-- R13: what a JOIN that is taken leaves: the record, the NUMBER offered, and the notice of a change of presence. -/
theorem joinTaken_leaves (n : Nat) (id : Identity) (caps : Caps) (s : State) :
    .number id n ∈ (joinTaken n id caps s).sched.class3 ∧ (joinTaken n id caps s).hold = s.hold ∧
    (joinTaken n id caps s).ctx = s.ctx ∧
    (joinTaken n id caps s).stn = (setStation n (joinedRecord n id caps (station s n)) s).stn ∧
    ((station s n).state ≠ .joining → (noticeAt (joinTaken n id caps s) 7).pending = true ∧
      (noticeAt (joinTaken n id caps s) 7).event = 1 ∧ (noticeAt (joinTaken n id caps s) 7).value = n) := by
  have written : (setStation n (joinedRecord n id caps (station s n)) s).hold = s.hold ∧
      (setStation n (joinedRecord n id caps (station s n)) s).ctx = s.ctx := by
    unfold setStation
    split <;> exact ⟨rfl, rfl⟩
  have departs (t : State) : FloorFrame t (if (station s n).state = .present then depart n t else t) :=
    .ite (depart_floorFrame n t) (.refl t)
  have works (t : State) : FloorWork t (if (station s n).state = .present then depart n t else t) :=
    .ite (depart_work n t) (.refl t)
  have noticed (t : State) : FloorFrame t (if (station s n).state = .joining then t else noticePresence n t) :=
    .ite (.refl t) (raise_floorFrame _ _ _ t)
  obtain ⟨_, _, _, hold, _, stn, _, ctx, _⟩ :=
    (noticed (setStation n (joinedRecord n id caps (station s n)) s)).trans (departs _)
  refine ⟨List.mem_append_right _ (List.mem_singleton_self _), hold.trans written.1, ctx.trans written.2, stn,
    fun other => ?_⟩
  have kept : noticeAt (joinTaken n id caps s) 7 =
      noticeAt (noticePresence n (setStation n (joinedRecord n id caps (station s n)) s)) 7 := by
    simp only [joinTaken, if_neg other]
    exact (works _).notice
  rw [kept]
  exact noticeAt_station_raised 1 n _

/-- R14: what a JOIN that is refused leaves: NUMBER 0 offered, and the notice of the refusal. -/
theorem joinRefused_leaves (event value : Nat) (id : Identity) (s : State) :
    .number id 0 ∈ (joinRefused event value id s).sched.class3 ∧ (joinRefused event value id s).stn = s.stn ∧
    (joinRefused event value id s).hold = s.hold ∧ (joinRefused event value id s).ctx = s.ctx ∧
    (noticeAt (joinRefused event value id s) 7).pending = true ∧
    (noticeAt (joinRefused event value id s) 7).event = event ∧
    (noticeAt (joinRefused event value id s) 7).value = value := by
  obtain ⟨_, _, _, hold, _, stn, _, ctx, _⟩ := raise_floorFrame .station event value s
  exact ⟨List.mem_append_right _ (List.mem_singleton_self _), stn, hold, ctx, noticeAt_station_raised event value s⟩

/-- R7, R13: the frame that is out brings a JOIN, in an open lane or for its ASSIGN, from an address whose record R16
leaves alone. -/
structure BringsJoin (s : State) (f : Flight) (src k : Nat) (body : List Byte) : Prop where
  run : mainRunning s = true
  out : s.ring.flight = some f
  lane : f.cell = none ∨ f.cell = some (.station .assign)
  source : src < 256
  size : body.length = 8
  kind : u8 body 6 = k
  range : k ≤ 3
  unheard : (station s src).state = .vacant ∨ (station s src).state = .halted ∨ (station s src).state = .bypassed

section
variable {s : State} {f : Flight} {src k : Nat} {body : List Byte}

theorem BringsJoin.runs (a : BringsJoin s f src k body) (x : Slots) :
    ∃ r t, FrameKept s r ∧ exec (.frameReturn f.number (cellBytes 0 src 0x21 0 body) x) s = .next t ∧
      FrameKept (join (identityAt body 0) (joinKind k) (capsOf (body.getD 7 0)) r) t := by
  obtain ⟨run, out, lane, src8, size, kind, range, unheard⟩ := a
  have filled : body ≠ [] := fun empty => by simp [empty] at size
  obtain ⟨r, t, before, runs, after⟩ := frameReturn_routes (src := src) (kind := 0x21) (tag := 0) (k := .join) run out
    (lane.imp id fun assign => ⟨assign, rfl, filled⟩) src8 (by decide) (by decide) rfl (by omega) x
  have arrives : routeCell { dest := 0, source := src, kind := .join, tag := 0, body := body } r =
      join (identityAt body 0) (joinKind k) (capsOf (body.getD 7 0)) r := by
    rw [← before.station] at unheard
    show joinArrives body (stationGood src r) = _
    rw [stationGood_of_unheard unheard, joinArrives, if_pos size, kind, joinKindOf_le range]
  rw [arrives] at after
  exact ⟨r, t, before, runs, after⟩

theorem GivenNumber.kept {id : Identity} {k n : Nat} {s t : State} (a : FrameKept s t) (given : GivenNumber id k n s) :
    GivenNumber id k n t := by
  have known : Known id t = Known id s := funext fun m => by simp only [Known, a.station]
  have free : FreeSeat t = FreeSeat s := funext fun m => by simp only [FreeSeat, a.station]
  simpa only [GivenNumber, known, free] using given

theorem takesJoin_kept {id : Identity} {n : Nat} {s t : State} (a : FrameKept s t) :
    TakesJoin id n t ↔ TakesJoin id n s := by
  simp only [TakesJoin, Known, a.station]

/-- R13: a JOIN is taken. -/
theorem BringsJoin.taken (a : BringsJoin s f src k body) (x : Slots) {n : Nat}
    (given : GivenNumber (identityAt body 0) k n s) (takes : TakesJoin (identityAt body 0) n s) :
    ∃ t, exec (.frameReturn f.number (cellBytes 0 src 0x21 0 body) x) s = .next t ∧
      .number (identityAt body 0) n ∈ t.sched.class3 ∧ t.hold = s.hold ∧ t.ctx = s.ctx ∧
      station t n = { station s n with
        identity := some (identityAt body 0), caps := if k = 0 then some (capsOf (body.getD 7 0)) else none,
        missed := 0, state := .joining } ∧
      (∀ m, m ≠ n → station t m = station s m) ∧
      ((station s n).state ≠ .joining →
        (noticeAt t 7).pending = true ∧ (noticeAt t 7).event = 1 ∧ (noticeAt t 7).value = n) := by
  obtain ⟨r, t, before, runs, after⟩ := a.runs x
  rw [join_of_takes (joinNumber_given (given.kept before)) ((takesJoin_kept before).mpr takes)] at after
  obtain ⟨numbered, hold, ctx, stn, notice⟩ := joinTaken_leaves n (identityAt body 0) (capsOf (body.getD 7 0)) r
  obtain ⟨record, seat⟩ := given.range a.range
  have written (m : Nat) : station t m =
      station (setStation n (joinedRecord n (identityAt body 0) (capsOf (body.getD 7 0)) (station r n)) r) m := by
    rw [after.station, station, station, stn]
  refine ⟨t, runs, after.class3 ▸ numbered, (after.hold.trans hold).trans before.hold,
    (after.ctx.trans ctx).trans before.ctx, ?_, fun m other => ?_, fun other => ?_⟩
  · rw [written, station_setStation_self record, joinedRecord, before.station, seat]
    simp only [decide_eq_true_eq]
  · rw [written, station_setStation_ne other, before.station]
  · rw [after.notice]
    exact notice (before.station n ▸ other)

/-- R14: a JOIN is refused with an event and a value. -/
theorem BringsJoin.refused (a : BringsJoin s f src k body) (x : Slots) {event value : Nat}
    (refuses : ∀ r, FrameKept s r → join (identityAt body 0) (joinKind k) (capsOf (body.getD 7 0)) r =
      joinRefused event value (identityAt body 0) r) :
    ∃ t, exec (.frameReturn f.number (cellBytes 0 src 0x21 0 body) x) s = .next t ∧
      .number (identityAt body 0) 0 ∈ t.sched.class3 ∧ t.stn = s.stn ∧ t.hold = s.hold ∧ t.ctx = s.ctx ∧
      (noticeAt t 7).pending = true ∧ (noticeAt t 7).event = event ∧ (noticeAt t 7).value = value := by
  obtain ⟨r, t, before, runs, after⟩ := a.runs x
  rw [refuses r before] at after
  obtain ⟨numbered, stn, hold, ctx, notice⟩ := joinRefused_leaves event value (identityAt body 0) r
  refine ⟨t, runs, after.class3 ▸ numbered, (after.stn.trans stn).trans before.stn,
    (after.hold.trans hold).trans before.hold, (after.ctx.trans ctx).trans before.ctx, ?_⟩
  rw [after.notice]
  exact notice

end

/-! ### A PACE arrives (R181, R182) -/

/-- R182: nothing is offered while a MINUTE is out, without a record, without credit, or with no recording station. -/
theorem offerMinute_idle {s : State} (idle : s.minutes.flight ≠ none ∨ s.minutes.queue = [] ∨ s.minutes.credits = 0 ∨
    present s 82 = false) : offerMinute s = s := by
  unfold offerMinute
  split
  · rfl
  · rename_i waits
    refine if_neg fun ⟨credit, here, free⟩ => ?_
    rcases idle with busy | empty | broke | gone
    · exact busy free
    · exact List.cons_ne_nil _ _ (waits.symm.trans empty)
    · omega
    · exact Bool.false_ne_true (gone.symm.trans here)

/-- R182: the head is offered against a credit. -/
theorem offerMinute_due {s : State} {r : MinuteRecord} {rest : List MinuteRecord} (free : s.minutes.flight = none)
    (waits : s.minutes.queue = r :: rest) (credit : 0 < s.minutes.credits) (here : present s 82 = true) :
    (offerMinute s).minutes = { s.minutes with credits := s.minutes.credits - 1, flight := some false } ∧
    (offerMinute s).sched.minute = some r := by
  simp only [offerMinute, waits, if_pos (And.intro credit (And.intro here free))]
  exact ⟨rfl, rfl⟩

theorem present_stationGood_self {n : Nat} (range : 1 ≤ n ∧ n ≤ 83) (s : State) :
    present (stationGood n s) n = present s n := by
  have counted : present (setStation n { station s n with missed := 0 } s) n = present s n := by
    rw [present, station_setStation_self range, present]
  unfold stationGood
  dsimp only
  split
  · exact counted
  · exact counted
  · exact counted
  · rfl
  · rfl
  · rfl

theorem paceArrives_without_credit {n : Nat} {body : List Byte} {s : State}
    (other : n ≠ 82 ∨ present s 82 = false ∨ body.length ≠ 1) : paceArrives n body s = s := by
  unfold paceArrives
  split
  · refine if_neg fun ⟨record, here⟩ => ?_
    rcases other with elsewhere | gone | long
    · exact elsewhere record
    · exact Bool.false_ne_true (gone.symm.trans here)
    · exact long rfl
  · rfl

theorem paceArrives_with_credit {s : State} (here : present s 82 = true) (b : Byte) : paceArrives 82 [b] s =
    offerMinute (s.setMinutes { s.minutes with credits := min 32 (s.minutes.credits + b.toNat) }) :=
  if_pos ⟨rfl, here⟩

/-- R7, R181: a PACE brought by a frame with an open lane. -/
theorem frameReturn_pace {s : State} {f : Flight} {src : Nat} {body : List Byte} (run : mainRunning s = true)
    (out : s.ring.flight = some f) (empty : f.cell = none) (src8 : src < 256) (size : body.length ≤ 32) (x : Slots) :
    ∃ t, exec (.frameReturn f.number (cellBytes 0 src 0x25 0 body) x) s = .next t ∧
      (src ≠ 82 ∨ present s 82 = false ∨ body.length ≠ 1 → t.minutes = s.minutes) ∧
      (∀ b, src = 82 → present s 82 = true → body = [b] →
        let credits := min 32 (s.minutes.credits + b.toNat)
        (s.minutes.flight ≠ none ∨ s.minutes.queue = [] ∨ credits = 0 →
          t.minutes = { s.minutes with credits := credits }) ∧
        (∀ r rest, s.minutes.flight = none → s.minutes.queue = r :: rest → 0 < credits →
          t.minutes = { s.minutes with credits := credits - 1, flight := some false } ∧ t.sched.minute = some r)) := by
  obtain ⟨r, t, before, runs, after⟩ := frameReturn_routes (src := src) (kind := 0x25) (tag := 0) run out (.inl empty)
    src8 (by decide) (by decide) rfl size x
  replace after : FrameKept (paceArrives src body (stationGood src r)) t := after
  have minutes : (stationGood src r).minutes = s.minutes := (stationGood_minutes src r).trans before.minutes
  have recorder : present (stationGood 82 r) 82 = present s 82 :=
    (present_stationGood_self (by decide) r).trans (before.present 82)
  refine ⟨t, runs, fun other => ?_, ?_⟩
  · have lost : src ≠ 82 ∨ present (stationGood src r) 82 = false ∨ body.length ≠ 1 := by
      by_cases record : src = 82
      · rw [record, recorder]
        exact record ▸ other
      · exact .inl record
    rw [after.minutes, paceArrives_without_credit lost, minutes]
  · rintro b rfl here rfl
    rw [paceArrives_with_credit (recorder.trans here), minutes] at after
    refine ⟨fun idle => ?_, fun head rest free waits credit => ?_⟩
    · rw [offerMinute_idle (idle.imp id (Or.imp id .inl))] at after
      exact after.minutes
    · obtain ⟨offered, placed⟩ := offerMinute_due (s := (stationGood 82 r).setMinutes
        { s.minutes with credits := min 32 (s.minutes.credits + b.toNat) }) free waits credit (recorder.trans here)
      exact ⟨after.minutes.trans offered, after.minute.trans placed⟩

/-! ### The outcome of a MINUTE (R183) -/

/-- R182: what the offer of a MINUTE makes of a minutes unit with none out. -/
theorem offered_minutes {u t : State} {m : Minutes} (after : FrameKept (offerMinute u) t) (same : u.minutes = m)
    (free : m.flight = none) :
    (m.queue = [] ∨ m.credits = 0 ∨ present u 82 = false → t.minutes = m) ∧
    (∀ r rest, m.queue = r :: rest → 0 < m.credits → present u 82 = true →
      t.minutes = { m with credits := m.credits - 1, flight := some false } ∧ t.sched.minute = some r) := by
  subst same
  refine ⟨fun idle => ?_, fun r rest waits credit here => ?_⟩
  · rw [offerMinute_idle (.inr idle)] at after
    exact after.minutes
  · obtain ⟨offered, placed⟩ := offerMinute_due free waits credit here
    exact ⟨after.minutes.trans offered, after.minute.trans placed⟩

theorem minuteConsumed_records (s : State) : s.minutes.queue.tail <+: (minuteConsumed s).minutes.queue :=
  (((autoOpen_work (s.setMinutes { s.minutes with queue := s.minutes.queue.tail, flight := none })).trans
    (handover_work _)).trans (offerMinute_work _)).records

/-- With nobody queued or waiting for the lane the occasions that follow find nothing to do. -/
theorem minuteConsumed_of_nobody {s : State} (unqueued : s.queue = []) (unwaiting : s.share.waiting = []) :
    minuteConsumed s = offerMinute (s.setMinutes { s.minutes with queue := s.minutes.queue.tail, flight := none }) := by
  unfold minuteConsumed
  dsimp only
  rw [autoOpen_of_empty, handover_of_nobody_waiting]
  · exact unwaiting
  · exact unqueued

/-- R183: a MINUTE that is consumed. -/
theorem frameReturn_minuteConsumed {s : State} {f : Flight} {r : MinuteRecord} (run : mainRunning s = true)
    (out : s.ring.flight = some f) (placed : f.cell = some (.minute r)) (x : Slots) :
    ∃ t, exec (.frameReturn f.number [] x) s = .next t ∧ s.minutes.queue.tail <+: t.minutes.queue ∧
      (s.queue = [] → s.share.waiting = [] →
        (s.minutes.queue.tail = [] ∨ s.minutes.credits = 0 ∨ present s 82 = false →
          t.minutes = { s.minutes with queue := s.minutes.queue.tail, flight := none }) ∧
        (∀ r' rest, s.minutes.queue.tail = r' :: rest → 0 < s.minutes.credits → present s 82 = true →
          t.minutes = { s.minutes with queue := r' :: rest, credits := s.minutes.credits - 1, flight := some false } ∧
          t.sched.minute = some r')) := by
  obtain ⟨u, t, before, runs, after⟩ := frameReturn_runs run out (fun _ => by rw [placed]; rfl) [] x
  rw [placed] at after
  replace after : FrameKept (minuteConsumed u) t := after
  refine ⟨t, runs, ?_, fun unqueued unwaiting => ?_⟩
  · rw [after.minutes, ← before.minutes]
    exact minuteConsumed_records u
  · rw [minuteConsumed_of_nobody (before.queue.trans unqueued) (before.share ▸ unwaiting), before.minutes] at after
    obtain ⟨idle, due⟩ := offered_minutes after rfl rfl
    refine ⟨fun quiet => idle ?_, fun head rest waits credit here => ?_⟩
    · exact quiet.imp id (Or.imp id (before.present 82).trans)
    · rw [← waits]
      exact due head rest waits credit ((before.present 82).trans here)

/-- R183: a MINUTE that misses. -/
theorem frameReturn_minuteMissed {s : State} {f : Flight} {r : MinuteRecord} (run : mainRunning s = true)
    (out : s.ring.flight = some f) (placed : f.cell = some (.minute r)) (x : Slots) :
    ∃ t, exec (.frameReturn f.number (OutCell.minute r).bytes x) s = .next t ∧ t.minutes.queue = s.minutes.queue ∧
      let credits := if s.minutes.flight = some false then min 32 (s.minutes.credits + 1) else s.minutes.credits
      (s.minutes.queue = [] ∨ credits = 0 ∨ present s 82 = false →
        t.minutes = { s.minutes with credits := credits, flight := none }) ∧
      (∀ r' rest, s.minutes.queue = r' :: rest → 0 < credits → present s 82 = true →
        t.minutes = { s.minutes with credits := credits - 1, flight := some false } ∧ t.sched.minute = some r') := by
  obtain ⟨u, t, before, runs, after⟩ := frameReturn_runs run out (fun _ => by rw [placed]; rfl)
    (OutCell.minute r).bytes x
  have filled : (OutCell.minute r).bytes ≠ [] := by simp [OutCell.bytes, cellBytes]
  have own : judgeLane (some (.minute r)) (OutCell.minute r).bytes = .own := (if_neg filled).trans (if_pos rfl)
  rw [placed, own] at after
  have refunded : minuteMiss u = offerMinute (u.setMinutes { s.minutes with
      credits := if s.minutes.flight = some false then min 32 (s.minutes.credits + 1) else s.minutes.credits,
      flight := none }) := by
    unfold minuteMiss
    rw [before.minutes]
    cases s.minutes.flight with
    | none => rfl
    | some forfeit => cases forfeit <;> rfl
  replace after : FrameKept (minuteMiss u) t := after
  rw [refunded] at after
  obtain ⟨idle, due⟩ := offered_minutes after rfl rfl
  refine ⟨t, runs, ?_, fun quiet => idle ?_, fun head rest waits credit here => ?_⟩
  · rw [after.minutes]
    exact (offerMinute_records _).1
  · exact quiet.imp id (Or.imp id (before.present 82).trans)
  · exact due head rest waits credit ((before.present 82).trans here)

/-- Settles O13: an ORDER, a JOIN that is taken, barred or given no number, a PACE, and the two outcomes of a MINUTE. -/
theorem orderCellJoinsInboundQueue : Obligations.OrderCellJoinsInboundQueue := by
  refine ⟨?_, ?_, ?_, ?_⟩
  · intro i h code f x s run out empty fits head spelt source part here room
    exact frameReturn_order run out empty fits head spelt source part here room x
  · intro s f x src k n body run out lane src8 size kind range unheard
    have brings : BringsJoin s f src k body := ⟨run, out, lane, src8, size, kind, range, unheard⟩
    refine ⟨fun given takes => ?_, fun given barred => ?_, fun full => ?_⟩
    · exact brings.taken x given takes
    · exact brings.refused x fun r before => join_of_duplicate
        (joinNumber_given (GivenNumber.kept before given)) (mt (takesJoin_kept before).mp barred) _
    · obtain ⟨seat, none_left⟩ := full
      refine brings.refused x fun r before => ?_
      have number : joinNumber r (identityAt body 0) (joinKind k) = none := by
        rw [joinKind, if_pos seat]
        refine joinNumber_full fun m low high => ?_
        rw [Known, FreeSeat, before.station]
        exact none_left m low high
      simp only [join, number]
  · intro s f x src body run out empty src8 size
    exact frameReturn_pace run out empty src8 size x
  · intro s f x r run out placed
    exact ⟨frameReturn_minuteConsumed run out placed x, frameReturn_minuteMissed run out placed x⟩

end Sys2Proof.OrdersAndNotices
end

section
/-! PROOFS. Supplies, cadence and restarts (chapter 11): the reset state, the loss and the return of mains, the backup
cell, and the reset line. What a start of the main domain and the start of a session leave comes before the statements
that rest on it. -/

namespace Sys2Proof.SuppliesAndRestarts

open Sys2Proof Sys2Proof.Machine Sys2Proof.MicrophoneChannels Sys2Proof.ContentShare Sys2Proof.MinutesStream
open Sys2Proof.OrdersAndNotices

/-! ### The reset state (R208) -/

/-- R190: with no notice raised every cause reads as clear. -/
theorem noticeAt_cleared {s : State} (clear : s.orders.notices = Vector.replicate 10 Notice.clear) (n : Nat) :
    noticeAt s n = Notice.clear := by
  simp only [noticeAt, clear, Vector.getElem?_replicate]
  split
  · rfl
  · split <;> rfl

/-- R11: in a station table that has been cleared no record is PRESENT. -/
theorem present_cleared {s : State} (clear : s.stn = StationUnit.cleared) (n : Nat) : present s n = false := by
  have vacant : station s n = Station.vacant := by
    simp only [station, clear, StationUnit.cleared, Vector.getElem?_replicate]
    split
    · rfl
    · split <;> rfl
  simp only [present, vacant]
  decide

theorem channels_cleared {s : State} (clear : s.chan = Channels.cleared) : channels s = [] := by
  simp only [channels, clear]
  rfl

theorem channelAt_cleared {s : State} (clear : s.chan = Channels.cleared) (k : Nat) : channelAt s k = none := by
  simp only [channelAt, clear, Channels.cleared, Vector.getElem?_replicate]
  split <;> rfl

/-- Settles O3: every block as the manual's cold start leaves it; FAR-IN on FAR is the one gain code of 0, and no notice
is pending. -/
theorem resetIsAColdStart : Obligations.ResetIsAColdStart := by
  have gains : ∀ bus < 4, ∀ source < 10,
      gainCode State.reset bus source = if bus = 3 ∧ source = 9 then 0 else 40 := by decide
  have quiet (n : Nat) : (noticeAt State.reset n).pending = false ∧ (noticeAt State.reset n).count = 0 := by
    rw [noticeAt_cleared rfl]
    exact ⟨rfl, rfl⟩
  unfold Obligations.ResetIsAColdStart
  exact ⟨rfl, rfl, rfl, rfl, rfl, rfl, rfl, rfl, rfl, rfl, rfl, rfl, rfl, rfl, rfl, rfl, rfl, rfl, gains, rfl, rfl, rfl,
    rfl, rfl, rfl, rfl, rfl, rfl, rfl, rfl, rfl, rfl, rfl, rfl, rfl, rfl, rfl, fun n _ _ => quiet n, rfl, rfl, rfl⟩

theorem calendarInRange_reset : CalendarInRange State.reset := by
  refine ⟨?_, ?_, ?_, ?_, ?_, fun b mem => ?_, ?_, ?_, ?_, ?_, ?_, fun c mem => ?_⟩
  case refine_6 => cases mem
  case refine_12 => cases mem
  all_goals decide

theorem ringInRange_reset : RingInRange State.reset := by
  refine ⟨?_, fun f mem => ?_, ?_⟩
  case refine_2 => cases mem
  all_goals decide

theorem countsInRange_reset : CountsInRange State.reset := by
  refine ⟨by decide, by decide, by decide, by decide, by decide, fun i mem => ?_, by decide, fun x mem => ?_,
    fun j mem => ?_⟩
  · cases mem
  · obtain ⟨-, rfl⟩ := List.mem_replicate.mp mem
    simp
  · cases mem

theorem floorTables_reset : FloorTables State.reset := by
  refine ⟨by decide, by decide, fun n mem => ?_, by decide, fun k mem => ?_, fun k _ => ?_, ?_, by decide, ?_,
    by decide, by decide⟩
  · cases mem
  · cases mem
  · rw [channelAt_cleared rfl]
    exact ⟨nofun, nofun⟩
  · rw [channels_cleared rfl]
    decide
  · decide

theorem stationTable_reset : StationTable State.reset := by
  intro r mem
  obtain ⟨-, rfl⟩ := List.mem_replicate.mp mem
  decide

/-- Settles O4: the four invariants at reset, block by block. -/
theorem resetMeetsInvariants : Obligations.ResetMeetsInvariants :=
  ⟨⟨calendarInRange_reset, ringInRange_reset, countsInRange_reset⟩, floorTables_reset, stationTable_reset,
    minutesSequence_iff.mpr inSequence_cleared⟩

/-! ### The supply events, the reset line and the orders of the supply unit -/

theorem exec_mainsLoss (s : State) : exec .mainsLoss s = .next (mainsLost s) := rfl

theorem exec_mainsReturn (r : BackupCond) (s : State) : exec (.mainsReturn r) s = .next (settle (mainsReturned r s)) :=
  rfl

theorem exec_backupLow (s : State) : exec .backupLow s = .next (backupFell s) := rfl

theorem exec_backupOk (s : State) : exec .backupOk s = .next (backupRose s) := rfl

theorem exec_resetLineLow (s : State) : exec .resetLineLow s = .next (lineLow s) := rfl

theorem exec_resetLineRelease (r : BackupCond) (s : State) :
    exec (.resetLineRelease r) s = .next (settle (lineReleased r s)) := rfl

theorem exec_restartExecute {s : State} (run : mainRunning s = true) (r : BackupCond) :
    exec (.restartExecute r) s = .next (settle (restartDue r s)) := congrArg Host.Outcome.next (if_pos run)

theorem exec_enableBackup (h : OrderHead) (s : State) :
    exec (.enableBackup h) s = .next (runOrder (.enableBackup h) h 0x95 enableBackupOrder s) := rfl

theorem exec_disableBackup (h : OrderHead) (s : State) :
    exec (.disableBackup h) s = .next (runOrder (.disableBackup h) h 0x96 disableBackupOrder s) := rfl

theorem exec_restart (h : OrderHead) (s : State) :
    exec (.restart h) s = .next (runOrder (.restart h) h 0x98 restartOrder s) := rfl

/-! ### A restart of the main domain (R208) -/

/-- The part right after a restart with its start causes, over a hold domain: every block of the main domain at its
restart values. -/
def restarted (causes : List StartCause) (reading : BackupCond) (hold : Hold) (s : State) : State :=
  { State.reset with
    hold := hold, orders := { State.reset.orders with starts := causes },
    sup := { backup := reading, cadence := .idle, timer := false, restart := .absent },
    freeCount := s.freeCount, pending := s.pending }

theorem startMain_eq {s : State} (high : s.nrstLow = false) (causes : List StartCause) (reading : BackupCond) :
    startMain causes reading s = restarted causes reading s.hold s := by
  simp only [startMain, clearMain, State.setOrders, State.setSched, State.setSupply, State.setAwaited, high]
  rfl

/-- After a restart no station is PRESENT, no job runs and no session is LIVE: the command ends with nothing more. -/
theorem settle_restarted (causes : List StartCause) (reading : BackupCond) (hold : Hold) (s : State) :
    settle (restarted causes reading hold s) = restarted causes reading hold s :=
  settle_quiet (present_cleared rfl) rfl rfl

theorem restartCold_eq {s : State} (high : s.nrstLow = false) (causes : List StartCause) (reading : BackupCond) :
    restartCold causes reading s = restarted causes reading Hold.cold s :=
  startMain_eq (s := s.setHold Hold.cold) high causes reading

/-- R48: reconciliation finds nothing in an empty booking table. -/
theorem reconcile_of_empty {s : State} (empty : s.hold.bookings = []) : reconcile s = s := by
  simp only [reconcile, empty, reconcileGo]

theorem restartKept_eq {s : State} (high : s.nrstLow = false) (causes : List StartCause) (reading : BackupCond) :
    restartKept causes reading s = reconcile (restarted causes reading s.hold s) :=
  congrArg reconcile (startMain_eq high causes reading)

theorem settle_restartKept_of_empty {s : State} (high : s.nrstLow = false) (empty : s.hold.bookings = [])
    (causes : List StartCause) (reading : BackupCond) :
    settle (restartKept causes reading s) = restarted causes reading s.hold s := by
  rw [restartKept_eq high, reconcile_of_empty (by exact empty), settle_restarted]

/-! ### The loss of mains (R204, R205) -/

theorem mainsLost_backed {s : State} (run : s.supply = .run) (enabled : s.hold.backupEnable = true)
    (ok : s.sup.backup = .ok) : mainsLost s = ((clearMain s.sup.backup s).setAwaited none).setSupply .hold := by
  simp only [mainsLost, run]
  exact if_pos ⟨enabled, ok⟩

theorem mainsLost_unbacked {s : State} (run : s.supply = .run)
    (unbacked : s.hold.backupEnable = false ∨ s.sup.backup = .low) :
    mainsLost s = (((clearMain s.sup.backup s).setAwaited none).setSupply .off).setHold Hold.cold := by
  simp only [mainsLost, run]
  refine if_neg fun ⟨enabled, ok⟩ => ?_
  rcases unbacked with disabled | low
  · exact Bool.false_ne_true (disabled.symm.trans enabled)
  · exact nomatch low.symm.trans ok

/-- Settles O30, by whether an enabled backup that is OK stands behind the hold domain. -/
theorem mainsLossHoldsOrLosesAll : Obligations.MainsLossHoldsOrLosesAll := by
  intro s run
  refine ⟨mainsLost s, exec_mainsLoss s, ?_⟩
  by_cases backed : s.hold.backupEnable = true ∧ s.sup.backup = .ok
  · obtain ⟨enabled, ok⟩ := backed
    rw [mainsLost_backed run enabled ok]
    refine ⟨rfl, rfl, rfl, rfl, rfl, fun _ _ => ⟨rfl, rfl⟩, fun unbacked => ?_⟩
    rcases unbacked with disabled | low
    · exact absurd (disabled.symm.trans enabled) Bool.false_ne_true
    · exact nomatch low.symm.trans ok
  · have unbacked : s.hold.backupEnable = false ∨ s.sup.backup = .low := by
      cases enabled : s.hold.backupEnable
      · exact .inl rfl
      · cases cell : s.sup.backup with
        | ok => exact absurd ⟨enabled, cell⟩ backed
        | low => exact .inr rfl
    rw [mainsLost_unbacked run unbacked]
    exact ⟨rfl, rfl, rfl, rfl, rfl, fun enabled ok => absurd ⟨enabled, ok⟩ backed, fun _ => ⟨rfl, rfl⟩⟩

/-! ### The backup cell (R204, R205, R209) -/

theorem backupFell_run {s : State} (run : s.supply = .run) (high : s.nrstLow = false) :
    backupFell s = raise .backup 1 0 (s.setSup { s.sup with backup := .low }) := by
  simp only [backupFell, run, high, Bool.false_eq_true, if_false]

theorem backupRose_run {s : State} (run : s.supply = .run) (high : s.nrstLow = false) :
    backupRose s = raise .backup 2 0 (s.setSup { s.sup with backup := .ok }) := by
  simp only [backupRose, run, high, Bool.false_eq_true, if_false]

theorem backupFell_inReset {s : State} (run : s.supply = .run) (low : s.nrstLow = true) :
    backupFell s = s.setSup { s.sup with backup := .low } := by
  simp only [backupFell, run, low, if_true]

theorem backupRose_inReset {s : State} (run : s.supply = .run) (low : s.nrstLow = true) :
    backupRose s = s.setSup { s.sup with backup := .ok } := by
  simp only [backupRose, run, low, if_true]

theorem backupFell_hold {s : State} (held : s.supply = .hold) :
    backupFell s = (s.setSupply .off).setHold Hold.cold := by
  simp only [backupFell, held]

theorem backupRose_hold {s : State} (held : s.supply = .hold) : backupRose s = s := by
  simp only [backupRose, held]

theorem enableBackupOrder_ok {s : State} (cell : s.sup.backup = .ok) :
    enableBackupOrder s = done [] { s with hold := { s.hold with backupEnable := true } } := by
  simp only [enableBackupOrder, cell]
  rfl

theorem enableBackupOrder_low {s : State} (cell : s.sup.backup = .low) : enableBackupOrder s = refuse .state s := by
  simp only [enableBackupOrder, cell]

theorem sup_of_floorFrame {s t : State} (a : FloorFrame s t) : t.sup = s.sup := by
  obtain ⟨_, _, _, _, _, _, _, _, _, sup, _⟩ := a
  exact sup

theorem hold_of_floorFrame {s t : State} (a : FloorFrame s t) : t.hold = s.hold := by
  obtain ⟨_, _, _, hold, _⟩ := a
  exact hold

theorem ctx_of_floorFrame {s t : State} (a : FloorFrame s t) : t.ctx = s.ctx := by
  obtain ⟨_, _, _, _, _, _, _, ctx, _⟩ := a
  exact ctx

/-- R190, R205: a BACKUP notice is raised beside the supply unit, and stands on nothing else. -/
theorem raise_backup_noticed (event : Nat) (x : SupplyUnit) (s : State) :
    let t := raise .backup event 0 (s.setSup x)
    t.sup = x ∧ (noticeAt t 5).pending = true ∧ (noticeAt t 5).event = event ∧ t.hold = s.hold ∧ t.ctx = s.ctx := by
  have frame := raise_floorFrame .backup event 0 (s.setSup x)
  have entry : noticeAt (raise .backup event 0 (s.setSup x)) 5 = _ := noticeAt_raise_self .backup event 0 (s.setSup x)
  have hold := hold_of_floorFrame frame
  have ctx := ctx_of_floorFrame frame
  refine ⟨sup_of_floorFrame frame, ?_, ?_, hold, ctx⟩ <;> rw [entry]

/-- Settles O32: the two events by the supply state and the reset line, and the two orders by the condition. -/
theorem backupEventsAndOrders : Obligations.BackupEventsAndOrders := by
  intro s h
  refine ⟨fun run high => ?_, fun run low => ?_, fun held => ?_, fun ready => ?_, fun ready => ?_⟩
  · obtain ⟨supLow, pendingLow, eventLow, holdLow, ctxLow⟩ := raise_backup_noticed 1 { s.sup with backup := .low } s
    obtain ⟨supOk, pendingOk, eventOk, holdOk, ctxOk⟩ := raise_backup_noticed 2 { s.sup with backup := .ok } s
    rw [exec_backupLow, exec_backupOk, backupFell_run run high, backupRose_run run high]
    exact ⟨_, _, rfl, rfl, supLow, supOk, pendingLow, eventLow, pendingOk, eventOk, holdLow, holdOk, ctxLow, ctxOk⟩
  · rw [exec_backupLow, exec_backupOk, backupFell_inReset run low, backupRose_inReset run low]
    exact ⟨rfl, rfl⟩
  · rw [exec_backupLow, exec_backupOk, backupFell_hold held, backupRose_hold held]
    exact ⟨rfl, rfl⟩
  · cases cell : s.sup.backup with
    | ok => rw [exec_enableBackup, runOrder_done ready h 0x95 (enableBackupOrder_ok cell), if_pos rfl]
    | low => rw [exec_enableBackup, runOrder_refused ready h 0x95 (enableBackupOrder_low cell), if_neg nofun]
  · exact congrArg Host.Outcome.next (runOrder_done ready h 0x96 rfl)

/-! ### The reset line (R209, R210) -/

theorem lineLow_run {s : State} (run : s.supply = .run) (high : s.nrstLow = false) : lineLow s =
    (clearMain s.sup.backup (s.setNrst true)).setSup
      { SupplyUnit.cleared s.sup.backup with restart := s.sup.restart } := by
  simp only [lineLow, run, high, Bool.false_eq_true, if_false]
  rfl

theorem lineReleased_warm {s : State} (run : s.supply = .run) (low : s.nrstLow = true) (unawaited : s.awaited = none)
    (r : BackupCond) : lineReleased r s = restartKept (releaseCauses s) r (s.setNrst false) := by
  simp only [lineReleased, low, run, unawaited, if_true]

/-- Settles O33: the fall of the line, and its release with no restart of a mains return waiting. -/
theorem resetLineHoldsThenResets : Obligations.ResetLineHoldsThenResets := by
  intro s r run
  refine ⟨fun high => ?_, fun low unawaited empty => ?_⟩
  · rw [exec_resetLineLow, lineLow_run run high]
    exact ⟨_, rfl, rfl, Bool.and_false _, rfl, rfl, rfl, rfl⟩
  · rw [exec_resetLineRelease, lineReleased_warm run low unawaited,
      settle_restartKept_of_empty (s := s.setNrst false) rfl empty]
    rfl

/-! ### A session starts (R52) -/

/-- What a session context that has been started from a booking takes from it; the warning may have come already. -/
structure StartedFrom (b : Booking) (resumed : Bool) (c : Session) : Prop where
  id : c.id = b.id
  grade : c.grade = b.grade
  endAt : c.endAt = b.endAt
  plan : c.plan = b.plan
  profile : c.profile = b.profile
  resumed : c.resumed = resumed
  phase : c.phase ≠ .ending

/-- A session started from a booking is in the context, at FULL cadence; the hold domain and the rest of the supply unit
stand as they were. -/
structure SessionStarted (b : Booking) (resumed : Bool) (s t : State) : Prop where
  session : ∃ c, t.ctx = some c ∧ StartedFrom b resumed c
  hold : t.hold = s.hold
  sup : t.sup = { s.sup with cadence := .full }

theorem SessionStarted.frame {b : Booking} {resumed : Bool} {s t u : State} (a : SessionStarted b resumed s t)
    (frame : FloorFrame t u) : SessionStarted b resumed s u where
  session := ctx_of_floorFrame frame ▸ a.session
  hold := (hold_of_floorFrame frame).trans a.hold
  sup := (sup_of_floorFrame frame).trans a.sup

theorem panelSessionStart_floorFrame (s : State) : FloorFrame s (panelSessionStart s) :=
  .foldl (fun t n => .ite (setPanelOf_floorFrame n _ t) (.refl t)) _ s

theorem warnSession_floorFrame (c : Session) (s : State) :
    FloorFrame (s.setCtx (some { c with phase := .warned })) (warnSession c s) :=
  (raise_floorFrame _ _ _ _).trans (markLists_floorFrame _ _)

/-- The warning changes the phase of the context, and keeps it from ENDING (R55). -/
theorem SessionStarted.checkWarning {b : Booking} {resumed : Bool} {s t : State} (a : SessionStarted b resumed s t) :
    SessionStarted b resumed s (checkWarning t) := by
  obtain ⟨c, ctx, from_b⟩ := a.session
  have warned : SessionStarted b resumed s (t.setCtx (some { c with phase := .warned })) :=
    ⟨⟨_, rfl, { from_b with phase := nofun }⟩, a.hold, a.sup⟩
  unfold Machine.checkWarning
  rw [ctx]
  dsimp only
  split
  · exact warned.frame (warnSession_floorFrame c t)
  · exact a

theorem drawTime_leaves (x : Int) (s : State) : ∃ n, (drawTime x s).2 = s.setFree n := by
  unfold drawTime
  split
  · exact ⟨s.freeCount, rfl⟩
  · exact ⟨_, rfl⟩

/-- With a context in place the cadence is FULL (R206). -/
theorem retestCadence_sup {s : State} {c : Session} (ctx : s.ctx = some c) :
    (retestCadence s).sup = { s.sup with cadence := .full } := by
  have full : cadenceFor s = .full := by simp only [cadenceFor, ctx, Option.isSome_some, Bool.true_or, if_true]
  simp only [retestCadence, full, State.setSup_sup]

/-- R52, steps 3 to 5: the context being in place, the record, the panels and the cadence follow. -/
theorem sessionStarted_shown {b : Booking} {resumed : Bool} {c : Session} (from_b : StartedFrom b resumed c)
    (n : Nat) (stn : StationUnit) (r : RecRequest) (s : State) : SessionStarted b resumed s
      (retestCadence (panelSessionStart (admitRecord r (((s.setFree n).setCtx (some c)).setStn stn)))) := by
  have frame := (admitRecord_floorFrame r (((s.setFree n).setCtx (some c)).setStn stn)).trans
    (panelSessionStart_floorFrame _)
  generalize panelSessionStart _ = u at frame ⊢
  have ctx : u.ctx = some c := ctx_of_floorFrame frame
  have sup : u.sup = s.sup := (sup_of_floorFrame frame).trans rfl
  have hold : u.hold = s.hold := (hold_of_floorFrame frame).trans rfl
  refine ⟨⟨c, ctx, from_b⟩, hold, ?_⟩
  rw [retestCadence_sup ctx, sup]

/-- R52: a session starts from the LIVE entry. -/
theorem startSession_starts {s : State} {b : Booking} (entry : liveEntry s = some b) (cause : Reason) (resumed : Bool) :
    SessionStarted b resumed s (startSession cause resumed s) := by
  obtain ⟨n, drawn⟩ := drawTime_leaves ((b.endAt : Int) - (b.profile.endLead * 60 : Nat)) s
  unfold startSession
  rw [entry]
  dsimp only
  generalize drawTime _ s = x at drawn ⊢
  obtain ⟨warnAt, u⟩ := x
  obtain rfl : u = s.setFree n := drawn
  refine SessionStarted.checkWarning ?_
  refine SessionStarted.frame ?_ (.ite (raise_floorFrame _ _ _ _) (.refl _))
  refine SessionStarted.frame ?_ (raise_floorFrame _ _ _ _)
  refine sessionStarted_shown ?_ n _ _ s
  exact ⟨rfl, rfl, rfl, rfl, rfl, rfl, nofun⟩

/-! ### The return of mains (R48, R204, R208) -/

theorem mainsReturned_off {s : State} (off : s.supply = .off) (high : s.nrstLow = false) (r : BackupCond) :
    mainsReturned r s = restartCold [.coldStart] r s := by
  simp only [mainsReturned, off, high, Bool.false_eq_true, if_false]

theorem mainsReturned_hold {s : State} (held : s.supply = .hold) (high : s.nrstLow = false) (r : BackupCond) :
    mainsReturned r s = restartKept [.supplyReturn] r s := by
  simp only [mainsReturned, held, high, Bool.false_eq_true, if_false]

/-- R48: a LIVE entry that contains now resumes its session. -/
theorem reconcile_resumes {s : State} {b : Booking} (only : s.hold.bookings = [b]) (live : b.live = true)
    (begun : b.startAt ≤ s.hold.tableTime) (lasts : s.hold.tableTime < b.endAt) :
    reconcile s = startSession .reconcile true s := by
  simp only [reconcile, only, reconcileGo, live, begun, Nat.not_le.mpr lasts, if_true, if_false]

/-- R48, R54: a LIVE entry whose end has passed is removed; its session has ended by the outage. -/
theorem reconcile_removes {s : State} {b : Booking} (only : s.hold.bookings = [b]) (live : b.live = true)
    (ended : b.endAt ≤ s.hold.tableTime) :
    reconcile s = raise .session 4 b.id
      (admitRecord { kind := .endd, reason := .outage, detail := some (.endd b.id) } (setBookings [] s)) := by
  simp only [reconcile, only, reconcileGo, live, ended, if_true]

/-- R174: the record of a session's end is the first in a minutes queue that has been cleared. -/
theorem admitRecord_end_cleared {s : State} (clear : s.minutes = Minutes.cleared) (idle : s.ctx = none)
    (reason : Reason) (id : Nat) :
    let t := admitRecord { kind := .endd, reason := reason, detail := some (.endd id) } s
    t.minutes.queue = [{ seq := 0, time := s.hold.tableTime, kind := .endd, seat := none, channel := none,
                         reason := reason, duration := none, detail := some (.endd id) }] ∧ t.orders = s.orders := by
  have room : admitted s .endd = true := admitted_of_closing rfl (by rw [clear]; decide)
  have shown : gradeNow s < 3 := by simp [gradeNow, idle]
  dsimp only
  rw [admitRecord_of_admitted rfl room (by rw [clear]; rfl), (appendRecord_records shown _).1, clear]
  exact ⟨rfl, offerMinute_orders _⟩

/-- Settles O31: from OFF, from HOLD with an empty booking table, and from HOLD with one LIVE entry that contains now or
has ended. -/
theorem mainsReturnStartsThePart : Obligations.MainsReturnStartsThePart := by
  intro s r high
  refine ⟨fun off => ?_, fun held empty => ?_, fun b held only live => ?_⟩
  · rw [exec_mainsReturn, mainsReturned_off off high, restartCold_eq high, settle_restarted]
    rfl
  · rw [exec_mainsReturn, mainsReturned_hold held high, settle_restartKept_of_empty high empty]
    rfl
  · rw [exec_mainsReturn, mainsReturned_hold held high, restartKept_eq high]
    refine ⟨fun begun lasts => ?_, fun ended => ?_⟩
    · rw [reconcile_resumes (by exact only) live (by exact begun) (by exact lasts)]
      have entry : liveEntry (restarted [.supplyReturn] r s.hold s) = some b := by
        simp [liveEntry, restarted, only, live]
      obtain ⟨⟨c, ctx, from_b⟩, hold, sup⟩ :=
        (startSession_starts entry .reconcile true).frame (settle_floorFrame _)
      refine ⟨_, c, rfl, ctx, from_b.id, from_b.grade, from_b.endAt, from_b.plan, from_b.profile, from_b.resumed,
        from_b.phase, ?_, ?_⟩
      · rw [hold]
        exact only
      · rw [sup]
    · rw [reconcile_removes (by exact only) live (by exact ended)]
      have cleared := admitRecord_end_cleared (s := setBookings [] (restarted [.supplyReturn] r s.hold s)) rfl rfl
        .outage b.id
      have admitting := admitRecord_floorFrame { kind := .endd, reason := .outage, detail := some (.endd b.id) }
        (setBookings [] (restarted [.supplyReturn] r s.hold s))
      generalize admitRecord _ _ = u at cleared admitting ⊢
      obtain ⟨queue, orders⟩ := cleared
      have frame := (admitting.trans (raise_floorFrame .session 4 b.id u)).trans (settle_floorFrame _)
      refine ⟨_, rfl, ctx_of_floorFrame frame, ?_, ?_, ?_⟩
      · rw [hold_of_floorFrame frame]
        rfl
      · rw [settle_minutes, raise_minutes]
        exact queue
      · have notice : noticeAt (settle (raise .session 4 b.id u)) 6 = noticeAt (raise .session 4 b.id u) 6 := by
          obtain ⟨_, _, _, _, _, _, _, _, _, _, _, _, _, others⟩ := settle_arbiterFrame (raise .session 4 b.id u)
          exact others 6 (by decide)
        have clear : noticeAt u Cause.session.num = Notice.clear := noticeAt_cleared (by rw [orders]; rfl) _
        have raised : noticeAt (raise .session 4 b.id u) 6 = _ := noticeAt_raise_self .session 4 b.id u
        rw [notice, raised, clear]
        rfl

end Sys2Proof.SuppliesAndRestarts
end

section
/-! PROOFS. The order RESTART (chapter 11): a pending restart waits for the frame of its ANSWER. A lane may bring back any
cell with that frame, so that most of this file says of each kind of cell that it leaves the pending restart alone. -/

namespace Sys2Proof.SuppliesAndRestarts

open Sys2Proof Sys2Proof.Machine Sys2Proof.MicrophoneChannels Sys2Proof.ContentShare Sys2Proof.MinutesStream
open Sys2Proof.OrdersAndNotices

/-! ### Requests and keys leave the floor's frame alone (R75 to R85, R113, R142) -/

theorem tryOpen_floorFrame_of_eq {n : Nat} {cat : Category} {cause : Reason} {s u : State} {opened : Bool}
    (e : tryOpen n cat cause s = (opened, u)) : FloorFrame s u := by
  have frame := tryOpen_floorFrame n cat cause s
  rwa [e] at frame

theorem orFlash_floorFrame (n : Nat) {r : Bool × State} {s : State} (frame : FloorFrame s r.2) :
    FloorFrame s (orFlash n r) := .ite frame (frame.trans (flash_floorFrame n _))

theorem requestFree_floorFrame (n : Nat) (p : Profile) (s : State) : FloorFrame s (requestFree n p s) := by
  unfold requestFree
  refine .ite (.ite (appendSeat_floorFrame n s) (orFlash_floorFrame n (tryOpen_floorFrame n _ _ s))) ?_
  split
  · exact flash_floorFrame n s
  · exact orFlash_floorFrame n (replaceMic_floorFrame n _ _ s)
  · exact appendSeat_floorFrame n s

theorem requestDelegate_floorFrame (n : Nat) (p : Profile) (s : State) : FloorFrame s (requestDelegate n p s) := by
  unfold requestDelegate
  refine .ite (flash_floorFrame n s) (.ite (closeMic_floorFrame n _ s) (.ite (withdraw_floorFrame n _ s) ?_))
  split
  · exact appendSeat_floorFrame n s
  · exact appendSeat_floorFrame n s
  · exact requestFree_floorFrame n p s

theorem requestChair_floorFrame (n : Nat) (s : State) : FloorFrame s (requestChair n s) :=
  .ite (closeMic_floorFrame n _ s) (orFlash_floorFrame n (tryOpen_floorFrame n _ _ s))

theorem requestLive_floorFrame (n : Nat) (s : State) : FloorFrame s (requestLive n s) := by
  unfold requestLive
  split
  · exact .refl s
  · exact .ite (requestChair_floorFrame n s) (requestDelegate_floorFrame n _ s)

theorem keyNext_floorFrame (n : Nat) (s : State) : FloorFrame s (keyNext n s) := by
  unfold keyNext
  split
  · exact .refl s
  · split
    · split
      · exact flash_floorFrame n s
      · exact .ite (orFlash_floorFrame n (tryOpen_floorFrame _ _ _ s))
          (orFlash_floorFrame n (replaceMic_floorFrame _ _ _ s))
    · split
      · exact flash_floorFrame n s
      · exact closeMic_floorFrame _ _ s

theorem closeForPriority_floorFrame (s : State) : FloorFrame s (closeForPriority s) :=
  .foldl (fun t (e : Channel) => closeMic_floorFrame e.seat .priority t) _ s

theorem keyPriorityDown_floorFrame (n : Nat) (s : State) : FloorFrame s (keyPriorityDown n s) := by
  have chair (t : State) (begun : FloorFrame s t) : FloorFrame s (if micOpen t n then t else
      match tryOpen n .chair .priority t with
      | (true, u) => u
      | (false, u) => flash n u) := by
    refine .ite begun ?_
    split
    · rename_i e
      exact begun.trans (tryOpen_floorFrame_of_eq e)
    · rename_i e
      exact (begun.trans (tryOpen_floorFrame_of_eq e)).trans (flash_floorFrame n _)
  unfold keyPriorityDown
  split
  · exact .refl s
  · refine .ite (.refl s) (chair _ (.ite ?_ (setChan_floorFrame s _)))
    split
    · exact (setChan_floorFrame s _).trans (suppressAll_floorFrame _ _)
    · exact (setChan_floorFrame s _).trans (closeForPriority_floorFrame _)

/-! ### The work of a frame leaves a pending restart alone (R210) -/

/-- The pending restart stands as it was. -/
def RestartStands (s t : State) : Prop := t.sup.restart = s.sup.restart

theorem RestartStands.refl (s : State) : RestartStands s s := rfl

theorem RestartStands.trans {s t u : State} (a : RestartStands s t) (b : RestartStands t u) : RestartStands s u :=
  Eq.trans b a

theorem RestartStands.ite {s t u : State} {c : Prop} [Decidable c] (a : RestartStands s t) (b : RestartStands s u) :
    RestartStands s (if c then t else u) := by
  split <;> assumption

theorem RestartStands.foldl {α : Type} {f : State → α → State} (stands : ∀ s x, RestartStands s (f s x)) (l : List α)
    (s : State) : RestartStands s (l.foldl f s) := by
  induction l generalizing s with
  | nil => exact .refl s
  | cons x l ih => exact (stands s x).trans (ih _)

theorem RestartStands.of_sup {s t : State} (same : t.sup = s.sup) : RestartStands s t :=
  congrArg SupplyUnit.restart same

theorem RestartStands.of_floorFrame {s t : State} (a : FloorFrame s t) : RestartStands s t :=
  .of_sup (sup_of_floorFrame a)

theorem setStation_restart (n : Nat) (r : Station) (s : State) : RestartStands s (setStation n r s) :=
  .ite (.refl s) (.refl s)

theorem raise_restart (c : Cause) (event value : Nat) (s : State) : RestartStands s (raise c event value s) :=
  .of_floorFrame (raise_floorFrame c event value s)

theorem depart_restart (n : Nat) (s : State) : RestartStands s (depart n s) := .of_floorFrame (depart_floorFrame n s)

theorem flash_restart (n : Nat) (s : State) : RestartStands s (flash n s) := .of_floorFrame (flash_floorFrame n s)

theorem drawTime_restart (x : Int) (s : State) : RestartStands s (drawTime x s).2 := by
  obtain ⟨n, drawn⟩ := drawTime_leaves x s
  rw [drawn]
  exact .refl s

/-! Sessions that a key starts or extends. -/

theorem startSession_restart (cause : Reason) (resumed : Bool) (s : State) :
    RestartStands s (startSession cause resumed s) := by
  cases entry : liveEntry s with
  | none =>
      have nothing : startSession cause resumed s = s := by simp only [startSession, entry]
      rw [nothing]
      exact .refl s
  | some b =>
      have sup := (startSession_starts entry cause resumed).sup
      rw [RestartStands, sup]

theorem startWalkIn_restart (cause : Reason) (s : State) : RestartStands s (startWalkIn cause s).2 := by
  unfold startWalkIn
  dsimp only
  split
  · exact .refl s
  · split
    · exact .refl s
    · split
      · exact .refl s
      · exact (drawTime_restart _ s).trans (startSession_restart _ _ _)

theorem requestWalkIn_restart (n : Nat) (s : State) : RestartStands s (requestWalkIn n s) := by
  have started := startWalkIn_restart .self s
  unfold requestWalkIn
  refine .ite ?_ (flash_restart n s)
  split
  · rename_i e
    rw [e] at started
    exact started.trans (.of_floorFrame (requestLive_floorFrame n _))
  · rename_i e
    rw [e] at started
    exact started.trans (flash_restart n _)

theorem requestExtension_restart (cause : Reason) (s : State) : RestartStands s (requestExtension cause s).2 := by
  unfold requestExtension
  split
  · rename_i c b _ _
    split
    · exact .refl s
    · dsimp only
      split
      · exact .refl s
      · split
        · exact .refl s
        · refine .trans ?_ (raise_restart _ _ _ _)
          refine .trans ?_ (.ite (.of_floorFrame (markLists_floorFrame _ _)) (.refl _))
          exact ((drawTime_restart _ s).trans (.of_floorFrame (admitRecord_floorFrame _ _))).trans
            (drawTime_restart _ (updateLive _ _))
  · exact .refl s

theorem keyExtend_restart (n : Nat) (s : State) : RestartStands s (keyExtend n s) := by
  have extended := requestExtension_restart .chair s
  unfold keyExtend
  split
  · rename_i e
    rwa [e] at extended
  · rename_i e
    rw [e] at extended
    exact extended.trans (flash_restart n _)

/-! The cells of a lane. -/

theorem handleKey_restart (n code : Nat) (s : State) : RestartStands s (handleKey n code s) := by
  have chair {f : State → State} (stands : RestartStands s (f s)) : RestartStands s (chairOnly n f s) :=
    .ite stands (flash_restart n s)
  unfold handleKey
  split
  · exact .ite (.of_floorFrame (requestLive_floorFrame n s)) (requestWalkIn_restart n s)
  · exact chair (.of_floorFrame (keyPriorityDown_floorFrame n s))
  · exact chair (.of_floorFrame (releasePriority_floorFrame n s))
  · exact chair (.of_floorFrame (keyNext_floorFrame n s))
  · exact chair (keyExtend_restart n s)
  · exact .of_floorFrame (keyShare_floorFrame n s)
  · exact .ite (.refl s) (((setStation_restart n _ s).trans (raise_restart _ _ _ _)).trans
      (.of_floorFrame (markLamp_floorFrame n _)))
  · exact .refl s

/-- R207: a key starts the cadence request timer, which leaves the pending restart beside it. -/
theorem keyArrives_restart (n : Nat) (body : List Byte) (s : State) : RestartStands s (keyArrives n body s) := by
  have timed : RestartStands s (startCadenceTimer s) := .refl s
  unfold keyArrives
  refine .ite ?_ (.refl s)
  dsimp only
  split
  · exact timed.trans (handleKey_restart n _ _)
  · exact timed

theorem stationGood_restart (n : Nat) (s : State) : RestartStands s (stationGood n s) := by
  unfold stationGood
  dsimp only
  split
  · exact setStation_restart n _ s
  · exact setStation_restart n _ s
  · exact setStation_restart n _ s
  · exact .refl s
  · exact .refl s
  · exact .refl s

theorem becamePresent_floorFrame (n : Nat) (s : State) : FloorFrame s (becamePresent n s) := by
  have noticed : FloorFrame s (noticePresence n (panelPresent n s)) :=
    FloorFrame.trans (.ite (setPanelOf_floorFrame n _ s) (.refl s)) (raise_floorFrame _ _ _ _)
  exact .ite (noticed.trans (offerAlert_floorFrame _)) (.ite (noticed.trans (offerMinute_floorFrame _))
    (.ite (noticed.trans (offerMark_floorFrame _ _)) noticed))

theorem stationEcho_restart (n : Nat) (e : EchoStatus) (s : State) : RestartStands s (stationEcho n e s) := by
  have marked {t : State} (a : RestartStands s t) :
      RestartStands s (if isSeat n && (e.mic != micOpen t n) then offerMark (.mic n) t else t) :=
    .ite (a.trans (.of_floorFrame (offerMark_floorFrame _ t))) a
  have arrived (r : Station) : RestartStands s (becamePresent n (setStation n r s)) :=
    (setStation_restart n r s).trans (.of_floorFrame (becamePresent_floorFrame n _))
  unfold stationEcho
  dsimp only
  split
  · exact marked (arrived _)
  · exact marked (arrived _)
  · exact marked (setStation_restart n _ s)
  · exact .refl s
  · exact .refl s
  · exact .refl s

theorem joinTaken_restart (n : Nat) (id : Identity) (caps : Caps) (s : State) :
    RestartStands s (joinTaken n id caps s) := by
  have joined (r : Station) {c : Prop} [Decidable c] :
      RestartStands s (if c then setStation n r s else noticePresence n (setStation n r s)) :=
    .ite (setStation_restart n r s) ((setStation_restart n r s).trans (raise_restart _ _ _ _))
  exact .ite ((joined _).trans (depart_restart n _)) (joined _)

theorem join_restart (id : Identity) (k : JoinKind) (caps : Caps) (s : State) : RestartStands s (join id k caps s) := by
  have refused (event value : Nat) : RestartStands s (joinRefused event value id s) := raise_restart _ _ _ s
  unfold join
  split
  · exact refused _ _
  · split
    · exact refused _ _
    · exact refused _ _
    · exact .ite (joinTaken_restart _ id caps s) (refused _ _)
    · exact joinTaken_restart _ id caps s
    · exact joinTaken_restart _ id caps s
    · exact joinTaken_restart _ id caps s

theorem joinArrives_restart (body : List Byte) (s : State) : RestartStands s (joinArrives body s) := by
  unfold joinArrives
  refine .ite ?_ (.refl s)
  split
  · exact .refl s
  · exact join_restart _ _ _ s

theorem arriveBody_restart (source tag : Nat) (body : List Byte) (s : State) :
    RestartStands s (arriveBody source tag body s) := by
  unfold arriveBody
  dsimp only
  split <;> exact .refl s

theorem paceArrives_restart (n : Nat) (body : List Byte) (s : State) : RestartStands s (paceArrives n body s) := by
  unfold paceArrives
  split
  · exact .ite (.of_floorFrame ((setMinutes_floorFrame s _).trans (offerMinute_floorFrame _))) (.refl s)
  · exact .refl s

theorem routeCell_restart (c : InCell) (s : State) : RestartStands s (routeCell c s) := by
  have good := stationGood_restart c.source s
  unfold routeCell
  refine .ite ?_ (.refl s)
  split
  · split
    · exact stationEcho_restart _ _ s
    · exact good
  · exact good.trans (joinArrives_restart _ _)
  · exact good.trans (keyArrives_restart _ _ _)
  · exact good.trans (arriveBody_restart _ _ _ _)
  · exact good.trans (paceArrives_restart _ _ _)

/-- Whatever a lane brings, a pending restart stands. -/
theorem laneArrives_restart (l : Lane) (s : State) : RestartStands s (laneArrives l s) := by
  cases l with
  | empty => exact .refl s
  | own => exact .refl s
  | bad => exact .refl s
  | good c => exact routeCell_restart c s

/-! The ring. -/

theorem setRing_restart (s : State) (x : Ring) : RestartStands s (s.setRing x) := .refl s

theorem restoreRing_restart (s : State) : RestartStands s (restoreRing s) := by
  unfold restoreRing
  exact .ite ((setRing_restart s _).trans (raise_restart _ _ _ _)) (.refl s)

theorem formFor_restart (cadence : Cadence) (x : Slots) (s : State) : RestartStands s (formFor cadence x s) := by
  cases cadence <;> exact .refl s

theorem breakRing_restart (s : State) : RestartStands s (breakRing s) := by
  have silenced (ns : List Nat) : RestartStands s (silenceAll ns (s.setRing { s.ring with broken := true })) :=
    (setRing_restart s _).trans (.foldl (fun t n => setStation_restart n _ t) ns _)
  exact (((silenced _).trans (.foldl (fun t n => raise_restart _ _ n t) _ _)).trans
    (.foldl (fun t n => depart_restart n t) _ _)).trans (raise_restart _ _ _ _)

theorem breakIfDue_restart (s : State) : RestartStands s (breakIfDue s) := .ite (breakRing_restart s) (.refl s)

theorem settle_restart (s : State) : RestartStands s (settle s) := .of_floorFrame (settle_floorFrame s)

/-! ### RESTART (R210) -/

/-- The frame of an ANSWER to a taken RESTART makes the restart ready. -/
theorem answerBack_ready {a : Answer} {s : State} (code : a.code = 0x98) (taken : a.status = .done)
    (answering : s.sup.restart = .answering) : (answerBack a s).sup.restart = .ready := by
  rw [answerBack, if_pos ⟨code, taken, answering⟩]
  rfl

/-- The fate of an ANSWER is the same whether it is consumed or has missed (R9). -/
theorem placedOutcome_answer (a : Answer) (l : Lane) (s : State) :
    placedOutcome (some (.answer a)) l s = answerBack a s := ite_self _

theorem exec_frameReturn_out {s : State} {f : Flight} (run : mainRunning s = true) (out : s.ring.flight = some f)
    (lane : List Byte) (x : Slots) :
    exec (.frameReturn f.number lane x) s = .next (settle (returnFrame f lane x s)) := by
  show Host.Outcome.next (inMain _ s) = _
  simp only [inMain, run, if_true, out]

theorem exec_frameFail_out {s : State} {f : Flight} (run : mainRunning s = true) (out : s.ring.flight = some f) :
    exec .frameFail s = .next (settle (failFrame f s)) := by
  show Host.Outcome.next (inMain _ s) = _
  simp only [inMain, run, if_true, failOutstanding, out]

section
variable {s : State} {f : Flight} {a : Answer} (placed : f.cell = some (.answer a)) (code : a.code = 0x98)
  (taken : a.status = .done) (answering : s.sup.restart = .answering)
include placed code taken answering

theorem returnFrame_ready (lane : List Byte) (x : Slots) : (returnFrame f lane x s).sup.restart = .ready := by
  have restored := restoreRing_restart (s.setRing { s.ring with flight := none, failures := 0 })
  have after (t : State) : RestartStands t (formFor f.cadence x (laneArrives (judgeLane f.cell lane) t)) :=
    (laneArrives_restart _ t).trans (formFor_restart _ x _)
  unfold returnFrame
  rw [placed] at after ⊢
  dsimp only
  rw [placedOutcome_answer]
  exact Eq.trans (after _) (answerBack_ready code taken (Eq.trans restored answering))

theorem failFrame_ready : (failFrame f s).sup.restart = .ready := by
  unfold failFrame
  rw [placed]
  exact Eq.trans ((breakIfDue_restart _).trans (formFor_restart f.cadence silentSlots _))
    (answerBack_ready code taken answering)

end

/-- R210: RESTART makes a restart pending; one that is pending already stays as it is. -/
theorem restartOrder_taken (s : State) : restartOrder s = done []
    { s with sup := { s.sup with restart := if s.sup.restart = .ready then .ready else .answering } } := by
  cases pending : s.sup.restart with
  | absent =>
      simp only [restartOrder, pending]
      rfl
  | answering =>
      simp only [restartOrder, pending]
      rw [if_neg nofun, ← pending]
  | ready =>
      simp only [restartOrder, pending]
      rw [if_pos trivial, ← pending]

/-- Settles O34: the order, the return and the failure of its ANSWER's frame, and the command that carries the restart
out, before it is ready and once it is. -/
theorem restartWaitsForItsAnswer : Obligations.RestartWaitsForItsAnswer := by
  intro h r s
  refine ⟨fun ready => ?_, fun f a run out placed code taken answering => ⟨fun lane x => ?_, ?_⟩, fun run unready => ?_,
    fun run ready empty => ?_⟩
  · rw [exec_restart, runOrder_done ready h 0x98 (restartOrder_taken s)]
  · exact ⟨_, exec_frameReturn_out run out lane x,
      Eq.trans (settle_restart _) (returnFrame_ready placed code taken answering lane x)⟩
  · exact ⟨_, exec_frameFail_out run out, Eq.trans (settle_restart _) (failFrame_ready placed code taken answering)⟩
  · rw [exec_restartExecute run, restartDue, if_neg unready]
  · obtain ⟨_, high⟩ := supply_of_mainRunning run
    rw [exec_restartExecute run, restartDue, if_pos ready, settle_restartKept_of_empty high empty]
    rfl

end Sys2Proof.SuppliesAndRestarts
end

section
/-! PROOFS. The queue of the commands that wait (logs 4 and 39): no command touches it, and a step takes the command at
its front. The floor's work leaves it alone by its frame (FloorFrame); this file adds the acts that change a block
outside that frame, unit by unit, then the orders by their owners, and assembles the commands and the step from them. -/

namespace Sys2Proof.CommandQueue

open Sys2Proof Sys2Proof.Machine Sys2Proof.SuppliesAndRestarts
open Sys2Proof.MinutesStream (startNowReply_state extendReply_state grantReply_state)

/-! ### The queue stands -/

/-- The queue of the commands that wait stands in `t` as it did in `s`. -/
def PendingKept (s t : State) : Prop := t.pending = s.pending

theorem PendingKept.refl (s : State) : PendingKept s s := rfl

/-- Two acts after one another, the later one given first, as they are written. -/
theorem PendingKept.comp {s t u : State} (b : PendingKept t u) (a : PendingKept s t) : PendingKept s u := Eq.trans b a

/-- An act of the floor after another act. -/
theorem PendingKept.frame {s t u : State} (b : FloorFrame t u) (a : PendingKept s t) : PendingKept s u := by
  obtain ⟨_, _, _, _, _, _, _, _, _, _, _, pending⟩ := b
  exact Eq.trans pending a

theorem PendingKept.of_floorFrame {s t : State} (a : FloorFrame s t) : PendingKept s t := .frame a (.refl s)

theorem PendingKept.ite {s t u : State} {c : Prop} [Decidable c] (a : PendingKept s t) (b : PendingKept s u) :
    PendingKept s (if c then t else u) := by
  split <;> assumption

theorem PendingKept.foldl {α : Type} {f : State → α → State} (kept : ∀ s x, PendingKept s (f s x)) (l : List α)
    (s : State) : PendingKept s (l.foldl f s) := by
  induction l generalizing s with
  | nil => exact .refl s
  | cons x l ih => exact .comp (ih _) (kept s x)

/-! ### Updates outside the floor's frame -/

theorem setCtx_pendingKept (s : State) (x : Option Session) : PendingKept s (s.setCtx x) := rfl

theorem setRing_pendingKept (s : State) (x : Ring) : PendingKept s (s.setRing x) := rfl

theorem setStn_pendingKept (s : State) (x : StationUnit) : PendingKept s (s.setStn x) := rfl

theorem setStation_pendingKept (n : Nat) (r : Station) (s : State) : PendingKept s (setStation n r s) :=
  .ite rfl rfl

theorem updateLive_pendingKept (f : Booking → Booking) (s : State) : PendingKept s (updateLive f s) := rfl

theorem removeLive_pendingKept (s : State) : PendingKept s (removeLive s) := rfl

theorem retestCadence_pendingKept (s : State) : PendingKept s (retestCadence s) := rfl

theorem startCadenceTimer_pendingKept (s : State) : PendingKept s (startCadenceTimer s) := rfl

theorem drawTime_pendingKept (x : Int) (s : State) : PendingKept s (drawTime x s).2 := by
  obtain ⟨n, drawn⟩ := drawTime_leaves x s
  rw [drawn]
  exact rfl

/-! ### More of the floor's work -/

theorem shareSessionEnd_floorFrame (s : State) : FloorFrame s (shareSessionEnd s) :=
  (endShareOnly_floorFrame _ s).trans (setShare_floorFrame _ _)

theorem channelsSessionEnd_floorFrame (s : State) : FloorFrame s (channelsSessionEnd s) := by
  have released := (setChan_floorFrame s { s.chan with holders := [], holdMode := none }).trans
    (suppressAll_floorFrame false _)
  exact (released.trans (.foldl (fun t (e : Channel) => closeMicOnly_floorFrame e.seat .session t) _ _)).trans
    (setChan_floorFrame _ _)

theorem planLeave_floorFrame (n : Nat) (s : State) : FloorFrame s (planLeave n s) :=
  (((shareLeave_floorFrame n _ s).trans (closeMic_floorFrame n _ _)).trans (withdraw_floorFrame n _ _)).trans
    (releasePriority_floorFrame n _)

theorem closeChanged_floorFrame (k : Nat) (s : State) : FloorFrame s (closeChanged k s) := by
  unfold closeChanged
  split
  · exact .refl s
  · exact .ite (.refl s) (closeMic_floorFrame _ _ s)

theorem sharePlanCheck_floorFrame (s : State) : FloorFrame s (sharePlanCheck s) := by
  unfold sharePlanCheck
  split
  · exact .refl s
  · exact .ite (endShare_floorFrame _ s) (.ite (setShare_floorFrame s _) (.ite (startGrace_floorFrame s) (.refl s)))

theorem lowerTo_floorFrame (limit fuel : Nat) (s : State) : FloorFrame s (lowerTo limit fuel s) := by
  induction fuel generalizing s with
  | zero => exact .refl s
  | succ fuel ih =>
      unfold lowerTo
      refine .ite ?_ (.refl s)
      split
      · exact .refl s
      · exact (closeMic_floorFrame _ _ s).trans (ih _)

theorem gradeFarFlag_floorFrame (g : Nat) (s : State) : FloorFrame s (gradeFarFlag g s) := by
  unfold gradeFarFlag
  split
  · exact .refl s
  · exact .ite ((setShare_floorFrame s _).trans (offerMark_floorFrame _ _)) (.refl s)

theorem speakLimitReached_floorFrame (n : Nat) (s : State) : FloorFrame s (speakLimitReached n s) := by
  unfold speakLimitReached
  split
  · exact .refl s
  · split
    · exact .refl s
    · split
      · exact .refl s
      · refine .ite ?_ (.refl s)
        split
        · exact closeMic_floorFrame n _ s
        · exact (setChannel_floorFrame _ _ s).trans (raise_floorFrame _ _ _ _)

theorem tickTimers_floorFrame (s : State) : FloorFrame s (tickTimers s) :=
  (setChan_floorFrame s _).trans (.foldl (fun t (e : Channel) => markLamp_floorFrame e.seat t) _ _)

theorem pieceOutcome_floorFrame (n : Nat) (consumed : Bool) (s : State) :
    FloorFrame s (pieceOutcome n consumed s) := by
  unfold pieceOutcome
  split
  · exact .refl s
  · exact .ite (.ite ((setPanel_floorFrame s _).trans (settleJob_floorFrame _ _))
      (.ite (dropTarget_floorFrame n s) (setPanel_floorFrame s _))) (.refl s)

theorem offer3_floorFrame (c : StationCell) (s : State) : FloorFrame s (offer3 c s) := setSched_floorFrame s _

theorem minuteConsumed_floorFrame (s : State) : FloorFrame s (minuteConsumed s) :=
  (((setMinutes_floorFrame s _).trans (autoOpen_floorFrame _)).trans (handover_floorFrame _)).trans
    (offerMinute_floorFrame _)

/-! ### Sessions (R45 to R48, R52 to R63) -/

theorem checkWarning_pendingKept (s : State) : PendingKept s (checkWarning s) := by
  unfold checkWarning
  split
  · exact .refl s
  · rename_i c _
    exact .ite (.frame (warnSession_floorFrame c s) rfl) (.refl s)

theorem startSession_pendingKept (cause : Reason) (resumed : Bool) (s : State) :
    PendingKept s (startSession cause resumed s) := by
  unfold startSession
  split
  · exact .refl s
  · rename_i b _
    have drawn := drawTime_pendingKept ((b.endAt : Int) - (b.profile.endLead * 60 : Nat)) s
    generalize drawTime _ s = x at drawn ⊢
    obtain ⟨warnAt, u⟩ := x
    exact .comp (checkWarning_pendingKept _) (.frame (.ite (raise_floorFrame _ _ _ _) (.refl _))
      (.frame (raise_floorFrame _ _ _ _) (.comp (retestCadence_pendingKept _)
        (.frame (panelSessionStart_floorFrame _) (.frame (admitRecord_floorFrame _ _) drawn)))))

theorem startDetection_pendingKept (s : State) : PendingKept s (startDetection s) := by
  unfold startDetection
  split
  · exact .refl s
  · exact .ite (.comp (startSession_pendingKept _ _ _) rfl) (.refl s)

theorem endSession_pendingKept (reason : Reason) (s : State) : PendingKept s (endSession reason s) := by
  unfold endSession
  split
  · exact .refl s
  · rename_i c _
    have closed (t : State) : FloorFrame t (channelsSessionEnd (shareSessionEnd t)) :=
      (shareSessionEnd_floorFrame t).trans (channelsSessionEnd_floorFrame _)
    have recorded (r : RecRequest) (t : State) :
        FloorFrame t (admitRecord r (markLists [.queue] (t.setQueue []))) :=
      ((setQueue_floorFrame t _).trans (markLists_floorFrame _ _)).trans (admitRecord_floorFrame _ _)
    exact .comp (startDetection_pendingKept _) (.comp (retestCadence_pendingKept _) (.comp (setCtx_pendingKept _ _)
      (.frame (raise_floorFrame _ _ _ _) (.comp (startCadenceTimer_pendingKept _) (.frame (mapPanels_floorFrame _ _)
        (.comp (removeLive_pendingKept _) (.frame (recorded _ _) (.frame (closed _) rfl))))))))

theorem endDetection_pendingKept (s : State) : PendingKept s (endDetection s) := by
  unfold endDetection
  split
  · exact .refl s
  · exact .ite (endSession_pendingKept _ s) (.refl s)

theorem requestExtension_pendingKept (cause : Reason) (s : State) :
    PendingKept s (requestExtension cause s).2 := by
  unfold requestExtension
  split
  · split
    · exact .refl s
    · dsimp only
      split
      · exact .refl s
      · split
        · exact .refl s
        · refine .frame (raise_floorFrame _ _ _ _) (.frame (.ite (markLists_floorFrame _ _) (.refl _)) ?_)
          exact .comp (setCtx_pendingKept _ _) (.comp (drawTime_pendingKept _ _) (.comp (updateLive_pendingKept _ _)
            (.frame (admitRecord_floorFrame _ _) (drawTime_pendingKept _ s))))
  · exact .refl s

theorem startWalkIn_pendingKept (cause : Reason) (s : State) : PendingKept s (startWalkIn cause s).2 := by
  unfold startWalkIn
  dsimp only
  split
  · exact .refl s
  · split
    · exact .refl s
    · split
      · exact .refl s
      · exact .comp (startSession_pendingKept _ _ _) (drawTime_pendingKept _ s)

theorem reconcileGo_pendingKept (now : Nat) (l : List Booking) (s : State) :
    PendingKept s (reconcileGo now l s) := by
  induction l generalizing s with
  | nil => exact .refl s
  | cons b rest ih =>
      have passed : PendingKept s (setBookings rest s) := rfl
      unfold reconcileGo
      refine .ite (.comp (ih _) (.ite ?_ (.frame (raise_floorFrame _ _ _ _) passed)))
        (.ite (.ite (startSession_pendingKept _ _ s) (.comp (startSession_pendingKept _ _ _) rfl)) (.refl s))
      exact .frame (raise_floorFrame _ _ _ _) (.frame (admitRecord_floorFrame _ _) passed)

theorem reconcile_pendingKept (s : State) : PendingKept s (reconcile s) := reconcileGo_pendingKept _ _ s

/-- R68: past the change of the context a plan switch is the floor's work. -/
theorem switchActivePlan_pendingKept (p : Nat) (s : State) : PendingKept s (switchActivePlan p s) := by
  unfold switchActivePlan
  split
  · exact .refl s
  · refine .frame (sharePlanCheck_floorFrame _) (.comp (.foldl (fun t n => ?_) _ _) (.comp (.foldl (fun t n => ?_) _ _)
      (.comp (.foldl (fun t k => ?_) _ _) (.comp (.foldl (fun t n => ?_) _ _) (.comp (.foldl (fun t n => ?_) _ _)
        (setCtx_pendingKept s _))))))
    · exact .of_floorFrame (withdraw_floorFrame n _ t)
    · exact .of_floorFrame (.ite (.refl t) (releasePriority_floorFrame n t))
    · exact .of_floorFrame (closeChanged_floorFrame k t)
    · exact .of_floorFrame (.ite (planLeave_floorFrame n t) (.refl t))
    · exact .of_floorFrame (.ite (markLamp_floorFrame n t) (.refl t))

theorem newWarning_pendingKept (c : Session) (lead : Nat) (s : State) : PendingKept s (newWarning c lead s) := by
  have drawn := drawTime_pendingKept ((c.endAt : Int) - (lead * 60 : Nat)) s
  unfold newWarning
  dsimp only
  split
  · exact drawn
  · exact drawn

theorem afterAdjust_pendingKept (c : Session) (p : Profile) (field : Nat) (s : State) :
    PendingKept s (afterAdjust c p field s) := by
  unfold afterAdjust
  split
  · exact .of_floorFrame (autoOpen_floorFrame s)
  · exact .of_floorFrame (.ite (autoOpen_floorFrame s) (lowerTo_floorFrame _ _ s))
  · exact .of_floorFrame (.ite (.refl s) (autoOpen_floorFrame s))
  · exact newWarning_pendingKept c _ s
  · exact .refl s

theorem takeGrade_pendingKept (c : Session) (g : Nat) (s : State) : PendingKept s (takeGrade c g s) :=
  .frame (markLists_floorFrame _ _) (.frame (gradeFarFlag_floorFrame g _) (.comp (updateLive_pendingKept _ _)
    (.comp (setCtx_pendingKept _ _) (.of_floorFrame (admitRecord_floorFrame _ s)))))

/-! ### Stations and keys (R7, R13 to R27, R75) -/

theorem noticePresence_floorFrame (n : Nat) (s : State) : FloorFrame s (noticePresence n s) := raise_floorFrame _ _ _ s

theorem stationMiss_pendingKept (n : Nat) (s : State) : PendingKept s (stationMiss n s) := by
  have stored (r : Station) := setStation_pendingKept n r s
  have silenced (r : Station) : PendingKept s (noticePresence n (setStation n r s)) :=
    .frame (noticePresence_floorFrame n _) (stored r)
  unfold stationMiss
  dsimp only
  split
  · exact .ite (silenced _) (stored _)
  · exact .ite (.frame (depart_floorFrame n _) (silenced _)) (stored _)
  · exact stored _
  · exact .refl s
  · exact .refl s
  · exact .refl s

theorem stationGood_pendingKept (n : Nat) (s : State) : PendingKept s (stationGood n s) := by
  unfold stationGood
  dsimp only
  split
  · exact setStation_pendingKept n _ s
  · exact setStation_pendingKept n _ s
  · exact setStation_pendingKept n _ s
  · exact .refl s
  · exact .refl s
  · exact .refl s

theorem stationEcho_pendingKept (n : Nat) (e : EchoStatus) (s : State) : PendingKept s (stationEcho n e s) := by
  have stored (r : Station) := setStation_pendingKept n r s
  have marked {t : State} (a : PendingKept s t) :
      PendingKept s (if isSeat n && (e.mic != micOpen t n) then offerMark (.mic n) t else t) :=
    .ite (.frame (offerMark_floorFrame _ t) a) a
  unfold stationEcho
  dsimp only
  split
  · exact marked (.frame (becamePresent_floorFrame n _) (stored _))
  · exact marked (.frame (becamePresent_floorFrame n _) (stored _))
  · exact marked (stored _)
  · exact .refl s
  · exact .refl s
  · exact .refl s

theorem joinTaken_pendingKept (n : Nat) (id : Identity) (caps : Caps) (s : State) :
    PendingKept s (joinTaken n id caps s) := by
  have joined (r : Station) {c : Prop} [Decidable c] :
      PendingKept s (if c then setStation n r s else noticePresence n (setStation n r s)) :=
    .ite (setStation_pendingKept n r s) (.frame (noticePresence_floorFrame n _) (setStation_pendingKept n r s))
  exact .frame (offer3_floorFrame _ _) (.ite (.frame (depart_floorFrame n _) (joined _)) (joined _))

theorem joinRefused_floorFrame (event value : Nat) (id : Identity) (s : State) :
    FloorFrame s (joinRefused event value id s) :=
  (raise_floorFrame _ _ _ s).trans (offer3_floorFrame _ _)

theorem join_pendingKept (id : Identity) (k : JoinKind) (caps : Caps) (s : State) :
    PendingKept s (join id k caps s) := by
  have refused (event value : Nat) : PendingKept s (joinRefused event value id s) :=
    .of_floorFrame (joinRefused_floorFrame event value id s)
  unfold join
  split
  · exact refused _ _
  · split
    · exact refused _ _
    · exact refused _ _
    · exact .ite (joinTaken_pendingKept _ id caps s) (refused _ _)
    · exact joinTaken_pendingKept _ id caps s
    · exact joinTaken_pendingKept _ id caps s
    · exact joinTaken_pendingKept _ id caps s

theorem shortCheck_pendingKept (live : Bool) (s : State) : PendingKept s (shortCheck live s) :=
  .ite (.frame (raise_floorFrame _ _ _ _) (setStn_pendingKept s _)) (.refl s)

theorem probeOver_pendingKept (cell : Option OutCell) (s : State) : PendingKept s (probeOver cell s) := by
  unfold probeOver
  split
  · unfold probeBack
    split
    · exact setStn_pendingKept s _
    · exact .comp (shortCheck_pendingKept _ _) (setStn_pendingKept s _)
  · exact .refl s

theorem probeRound_pendingKept (s : State) : PendingKept s (probeRound s) := by
  let t := s.setStn { s.stn with period := s.stn.plan.period }
  have assigned : PendingKept s (if t.sched.class3.contains .assign then t else offer3 .assign t) :=
    .ite (setStn_pendingKept s _) (.frame (offer3_floorFrame _ t) (setStn_pendingKept s _))
  have probed (ns : List Nat) : PendingKept s (ns.foldl (fun u n => offer3 (.probe n) u)
      (if t.sched.class3.contains .assign then t else offer3 .assign t)) :=
    .frame (.foldl (fun u n => offer3_floorFrame _ u) ns _) assigned
  exact .ite (.comp (shortCheck_pendingKept _ _) (probed _)) (.comp (setStn_pendingKept _ _) (probed _))

theorem haltInterval_pendingKept (n : Nat) (s : State) : PendingKept s (haltInterval n s) := by
  have stored (r : Station) := setStation_pendingKept n r s
  exact .ite (.ite (.frame (offer3_floorFrame _ _) (stored _)) (stored _)) (.refl s)

theorem requestWalkIn_pendingKept (n : Nat) (s : State) : PendingKept s (requestWalkIn n s) := by
  have started := startWalkIn_pendingKept .self s
  unfold requestWalkIn
  refine .ite ?_ (.of_floorFrame (flash_floorFrame n s))
  split
  · rename_i e
    rw [e] at started
    exact .frame (requestLive_floorFrame n _) started
  · rename_i e
    rw [e] at started
    exact .frame (flash_floorFrame n _) started

theorem keyExtend_pendingKept (n : Nat) (s : State) : PendingKept s (keyExtend n s) := by
  have extended := requestExtension_pendingKept .chair s
  unfold keyExtend
  split
  · rename_i e
    rwa [e] at extended
  · rename_i e
    rw [e] at extended
    exact .frame (flash_floorFrame n _) extended

theorem keyCall_pendingKept (n : Nat) (s : State) : PendingKept s (keyCall n s) :=
  .ite (.refl s) (.frame (markLamp_floorFrame n _) (.frame (raise_floorFrame _ _ _ _) (setStation_pendingKept n _ s)))

theorem handleKey_pendingKept (n code : Nat) (s : State) : PendingKept s (handleKey n code s) := by
  have chair {f : State → State} (kept : PendingKept s (f s)) : PendingKept s (chairOnly n f s) :=
    .ite kept (.of_floorFrame (flash_floorFrame n s))
  unfold handleKey
  split
  · exact .ite (.of_floorFrame (requestLive_floorFrame n s)) (requestWalkIn_pendingKept n s)
  · exact chair (.of_floorFrame (keyPriorityDown_floorFrame n s))
  · exact chair (.of_floorFrame (releasePriority_floorFrame n s))
  · exact chair (.of_floorFrame (keyNext_floorFrame n s))
  · exact chair (keyExtend_pendingKept n s)
  · exact .of_floorFrame (keyShare_floorFrame n s)
  · exact keyCall_pendingKept n s
  · exact .refl s

/-! ### The lane of a returned frame (R7) -/

theorem keyArrives_pendingKept (n : Nat) (body : List Byte) (s : State) : PendingKept s (keyArrives n body s) := by
  have timed := startCadenceTimer_pendingKept s
  unfold keyArrives
  refine .ite ?_ (.refl s)
  dsimp only
  split
  · exact .comp (handleKey_pendingKept n _ _) timed
  · exact timed

theorem joinArrives_pendingKept (body : List Byte) (s : State) : PendingKept s (joinArrives body s) := by
  unfold joinArrives
  refine .ite ?_ (.refl s)
  split
  · exact .refl s
  · exact join_pendingKept _ _ _ s

theorem paceArrives_floorFrame (n : Nat) (body : List Byte) (s : State) : FloorFrame s (paceArrives n body s) := by
  unfold paceArrives
  split
  · exact .ite ((setMinutes_floorFrame s _).trans (offerMinute_floorFrame _)) (.refl s)
  · exact .refl s

theorem arriveBody_floorFrame (source tag : Nat) (body : List Byte) (s : State) :
    FloorFrame s (arriveBody source tag body s) := by
  unfold arriveBody
  dsimp only
  split
  · exact setSched_floorFrame s _
  · exact setOrders_floorFrame s _
  · exact .refl s

theorem arriveOrder_floorFrame (i : Instr) (h : OrderHead) (code : Nat) (s : State) :
    FloorFrame s (arriveOrder i h code s) := by
  unfold arriveOrder
  dsimp only
  split
  · exact setSched_floorFrame s _
  · exact setOrders_floorFrame s _

theorem routeCell_pendingKept (c : InCell) (s : State) : PendingKept s (routeCell c s) := by
  have good := stationGood_pendingKept c.source s
  unfold routeCell
  refine .ite ?_ (.refl s)
  split
  · split
    · exact stationEcho_pendingKept _ _ s
    · exact good
  · exact .comp (joinArrives_pendingKept _ _) good
  · exact .comp (keyArrives_pendingKept _ _ _) good
  · exact .frame (arriveBody_floorFrame _ _ _ _) good
  · exact .frame (paceArrives_floorFrame _ _ _) good

/-- A lane brings cells of stations, none of which is a command that waits. -/
theorem laneArrives_pendingKept (l : Lane) (s : State) : PendingKept s (laneArrives l s) := by
  cases l with
  | empty => exact .refl s
  | own => exact .refl s
  | bad => exact setRing_pendingKept s _
  | good c => exact routeCell_pendingKept c s

/-! ### Frames (R2 to R6, R9, R10) -/

theorem stationPlaced_pendingKept (c : StationCell) (s : State) : PendingKept s (stationPlaced c s) := by
  unfold stationPlaced
  split
  · exact .ite (setStation_pendingKept _ _ s) (.refl s)
  · exact .refl s

theorem placeClass4_pendingKept (s : State) : PendingKept s (placeClass4 s).2 := by
  unfold placeClass4
  split
  · exact rfl
  · exact rfl
  · exact rfl
  · split <;> exact rfl

/-- R4: a placement takes a cell out of the scheduler, whose classes are not the queue of the commands that wait. -/
theorem placeCell_pendingKept (s : State) : PendingKept s (placeCell s).2 := by
  unfold placeCell
  split
  · unfold placeClass2
    split
    · unfold placeClass3
      split
      · exact placeClass4_pendingKept s
      · exact .comp (stationPlaced_pendingKept _ _) rfl
    · exact rfl
    · exact rfl
  · exact rfl

theorem sendFrame_pendingKept (cell : Option OutCell) (s : State) : PendingKept s (sendFrame cell s) := rfl

theorem emitFrame_pendingKept (s : State) : PendingKept s (emitFrame s) := by
  have offered : PendingKept s (offerPresentation s) := .of_floorFrame (offerPresentation_arbiterFrame s).1
  exact .ite (.comp (sendFrame_pendingKept _ _) offered)
    (.comp (sendFrame_pendingKept _ _) (.comp (placeCell_pendingKept _) offered))

theorem stationCellMiss_pendingKept (c : StationCell) (s : State) : PendingKept s (stationCellMiss c s) := by
  have resent (again : StationCell) {p : Prop} [Decidable p] : PendingKept s (if p then offer3 again s else s) :=
    .ite (.of_floorFrame (offer3_floorFrame again s)) (.refl s)
  cases c with
  | assign => exact .refl s
  | number id given => exact .ite (stationMiss_pendingKept given s) (.refl s)
  | probe n => exact stationMiss_pendingKept n s
  | halt n k => exact resent _
  | resume n k => exact resent _
  | bypass n k => exact resent _
  | unbypass n id k => exact resent _
  | resumeAll => exact .refl s
  | unbypassAll => exact .refl s

theorem answerBack_pendingKept (a : Answer) (s : State) : PendingKept s (answerBack a s) := .ite rfl (.refl s)

theorem alertAgain_floorFrame (s : State) : FloorFrame s (offerAlert (alertOver s)) :=
  (setOrders_floorFrame s _).trans (offerAlert_floorFrame _)

theorem cellMiss_pendingKept (c : OutCell) (s : State) : PendingKept s (cellMiss c s) := by
  have marked (m : Mark) {p : Prop} [Decidable p] : PendingKept s (if p then offerMark m s else s) :=
    .of_floorFrame (.ite (offerMark_floorFrame m s) (.refl s))
  have panel (n : Nat) (r : PanelRecord) {p : Prop} [Decidable p] :
      PendingKept s (if p then setPanelOf n r s else s) :=
    .of_floorFrame (.ite (setPanelOf_floorFrame n r s) (.refl s))
  cases c with
  | mic n e => exact marked _
  | laneSeat n b => exact marked _
  | laneBridge n b => exact marked _
  | answer a => exact answerBack_pendingKept a s
  | alert n => exact .of_floorFrame (alertAgain_floorFrame s)
  | station c => exact stationCellMiss_pendingKept c s
  | lamp n c => exact panel n _
  | list n l => exact panel n _
  | page n p => exact panel n _
  | piece n counts b => exact .of_floorFrame (.ite (pieceOutcome_floorFrame n _ s) (.refl s))
  | minute r => exact .of_floorFrame ((setMinutes_floorFrame s _).trans (offerMinute_floorFrame _))

theorem cellConsumed_pendingKept (c : OutCell) (s : State) : PendingKept s (cellConsumed c s) := by
  cases c with
  | mic n e => exact .refl s
  | laneSeat n b => exact .refl s
  | laneBridge n b => exact .refl s
  | answer a => exact answerBack_pendingKept a s
  | alert n => exact .of_floorFrame (.ite (setOrders_floorFrame s _) (alertAgain_floorFrame s))
  | station c => exact .refl s
  | lamp n c => exact .of_floorFrame (setPanelOf_floorFrame n _ s)
  | list n l => exact .refl s
  | page n p => exact .refl s
  | piece n counts b => exact .of_floorFrame (.ite (pieceOutcome_floorFrame n _ s) (.refl s))
  | minute r => exact .of_floorFrame (minuteConsumed_floorFrame s)

theorem placedOutcome_pendingKept (cell : Option OutCell) (l : Lane) (s : State) :
    PendingKept s (placedOutcome cell l s) := by
  cases cell with
  | none => exact .refl s
  | some c => exact .ite (cellConsumed_pendingKept c s) (cellMiss_pendingKept c s)

theorem formFor_pendingKept (cadence : Cadence) (x : Slots) (s : State) : PendingKept s (formFor cadence x s) := by
  cases cadence with
  | full => exact rfl
  | idle => exact .refl s

theorem restoreRing_pendingKept (s : State) : PendingKept s (restoreRing s) :=
  .ite (.frame (raise_floorFrame _ _ _ _) (setRing_pendingKept s _)) (.refl s)

theorem returnFrame_pendingKept (f : Flight) (lane : List Byte) (x : Slots) (s : State) :
    PendingKept s (returnFrame f lane x s) :=
  .comp (formFor_pendingKept _ _ _) (.comp (probeOver_pendingKept _ _) (.comp (laneArrives_pendingKept _ _)
    (.comp (placedOutcome_pendingKept _ _ _) (.comp (restoreRing_pendingKept _) (setRing_pendingKept s _)))))

theorem breakRing_pendingKept (s : State) : PendingKept s (breakRing s) :=
  .frame (raise_floorFrame _ _ _ _) (.frame (.foldl (fun t n => depart_floorFrame n t) _ _)
    (.frame (.foldl (fun t n => noticePresence_floorFrame n t) _ _)
      (.comp (.foldl (fun t n => setStation_pendingKept n _ t) _ _) (setRing_pendingKept s _))))

theorem failFrame_pendingKept (f : Flight) (s : State) : PendingKept s (failFrame f s) := by
  have broken (t : State) : PendingKept t (breakIfDue t) := .ite (breakRing_pendingKept t) (.refl t)
  unfold failFrame
  refine .comp (formFor_pendingKept _ _ _) (.comp (broken _) (.comp (probeOver_pendingKept _ _) ?_))
  split
  · exact setRing_pendingKept s _
  · exact .comp (cellMiss_pendingKept _ _) (setRing_pendingKept s _)

theorem failOutstanding_pendingKept (s : State) : PendingKept s (failOutstanding s) := by
  unfold failOutstanding
  split
  · exact .refl s
  · exact failFrame_pendingKept _ s

/-! ### The sample clock (R131, R134) -/

theorem externalLost_pendingKept (s : State) : PendingKept s (externalLost s) := by
  unfold externalLost
  split
  · exact .frame (raise_floorFrame _ _ _ _) rfl
  · exact rfl

theorem selectClock_pendingKept (x : ClockSource) (s : State) : PendingKept s (selectClock x s) := by
  unfold selectClock
  split
  · exact .ite rfl (.ite rfl (.frame (raise_floorFrame _ _ _ _) rfl))
  · exact rfl
  · exact rfl
  · exact rfl

/-! ### Supplies, the reset line and table time (R29, R204, R208 to R210) -/

/-- R208: a restart clears the blocks of the part, and the commands go on waiting. -/
theorem restartKept_pendingKept (causes : List StartCause) (reading : BackupCond) (s : State) :
    PendingKept s (restartKept causes reading s) := .comp (reconcile_pendingKept _) rfl

theorem restartCold_pendingKept (causes : List StartCause) (reading : BackupCond) (s : State) :
    PendingKept s (restartCold causes reading s) := rfl

theorem mainsLost_pendingKept (s : State) : PendingKept s (mainsLost s) := by
  unfold mainsLost
  split
  · exact .ite rfl rfl
  · exact .refl s
  · exact .refl s

theorem mainsReturned_pendingKept (reading : BackupCond) (s : State) : PendingKept s (mainsReturned reading s) := by
  unfold mainsReturned
  split
  · exact .refl s
  · exact .ite rfl (restartKept_pendingKept _ _ s)
  · exact .ite rfl (restartCold_pendingKept _ _ s)

theorem backupFell_pendingKept (s : State) : PendingKept s (backupFell s) := by
  unfold backupFell
  split
  · exact .ite rfl (.frame (raise_floorFrame _ _ _ _) rfl)
  · exact rfl
  · exact .refl s

theorem backupRose_pendingKept (s : State) : PendingKept s (backupRose s) := by
  unfold backupRose
  split
  · exact .ite rfl (.frame (raise_floorFrame _ _ _ _) rfl)
  · exact .refl s
  · exact .refl s

theorem lineLow_pendingKept (s : State) : PendingKept s (lineLow s) := by
  unfold lineLow
  dsimp only
  split
  · exact .ite rfl rfl
  · exact rfl
  · exact rfl

theorem lineReleased_pendingKept (reading : BackupCond) (s : State) : PendingKept s (lineReleased reading s) := by
  unfold lineReleased
  refine .ite ?_ (.refl s)
  dsimp only
  split
  · split
    · exact restartCold_pendingKept _ _ _
    · exact restartKept_pendingKept _ _ _
    · exact restartKept_pendingKept _ _ _
  · exact rfl
  · exact rfl

theorem restartDue_pendingKept (reading : BackupCond) (s : State) : PendingKept s (restartDue reading s) :=
  .ite (restartKept_pendingKept _ reading s) (.refl s)

theorem tick_pendingKept (s : State) : PendingKept s (tick s) := by
  have counted : PendingKept s (countSecond s) := rfl
  unfold tick
  split
  · exact .ite counted (.frame (settle_floorFrame _) (.frame (tickTimers_floorFrame _)
      (.comp (checkWarning_pendingKept _) (.comp (startDetection_pendingKept _)
        (.comp (endDetection_pendingKept _) counted)))))
  · exact counted
  · exact .refl s

/-- An event of the main domain, with the arbiter's act that ends it. -/
theorem inMain_pendingKept {f : State → State} {s : State} (kept : PendingKept s (f s)) :
    PendingKept s (inMain f s) :=
  .ite (.frame (settle_floorFrame _) kept) (.refl s)

/-! ### Orders (R187, R188) -/

/-- What an owner makes of a state leaves the commands waiting. -/
def OwnerKeepsPending (owner : State → Reply) : Prop := ∀ s, PendingKept s (owner s).state

theorem PendingKept.ite_reply {s : State} {r q : Reply} {c : Prop} [Decidable c] (a : PendingKept s r.state)
    (b : PendingKept s q.state) : PendingKept s (if c then r else q).state := by
  split <;> assumption

theorem carryOut_pendingKept {owner : State → Reply} (keeps : OwnerKeepsPending owner) (h : OrderHead) (code : Nat)
    (s : State) : PendingKept s (carryOut h code owner s) := by
  unfold carryOut
  dsimp only
  cases (owner s).follow with
  | nothing => exact keeps s
  | alert => exact .frame (offerAlert_floorFrame _) (keeps s)
  | reconcile => exact .comp (reconcile_pendingKept _) (keeps s)

/-- An order joins the inbound queue of the order unit, which is not the queue of the commands that wait. -/
theorem runOrder_pendingKept {owner : State → Reply} (keeps : OwnerKeepsPending owner) (i : Instr) (h : OrderHead)
    (code : Nat) (s : State) : PendingKept s (runOrder i h code owner s) := by
  have arrived : PendingKept s (if atHead i s then s else arriveOrder i h code s) :=
    .of_floorFrame (.ite (.refl s) (arriveOrder_floorFrame i h code s))
  have carried := PendingKept.comp (carryOut_pendingKept keeps h code _) arrived
  exact .ite (.frame (settle_floorFrame _) (.ite carried arrived)) (.refl s)

/-! The station unit's orders. -/

theorem forgetOrder_keepsPending (n : Nat) : OwnerKeepsPending (forgetOrder n) := by
  intro s
  have forgotten : PendingKept s (forgetRecord n s) := by
    have vacant := setStation_pendingKept n Station.vacant s
    have marked : PendingKept s (if (station s n).call then markLamp n (setStation n Station.vacant s)
        else setStation n Station.vacant s) := .ite (.frame (markLamp_floorFrame n _) vacant) vacant
    exact .ite (.frame (depart_floorFrame n _) marked) marked
  unfold forgetOrder
  refine .ite_reply ?_ (.refl s)
  split
  · exact forgotten
  · exact forgotten
  · exact .refl s
  · exact .refl s
  · exact .refl s
  · exact .refl s

theorem haltSeatOrder_keepsPending (n : Nat) : OwnerKeepsPending (haltSeatOrder n) := by
  intro s
  have halted : PendingKept s (haltStation n s) :=
    .frame (depart_floorFrame n _) (.comp (setStation_pendingKept n _ _) rfl)
  unfold haltSeatOrder
  refine .ite_reply ?_ (.refl s)
  split
  · exact halted
  · exact .refl s
  · exact .refl s
  · exact .refl s
  · exact .refl s
  · exact .refl s

theorem resumeSeatOrder_keepsPending (n : Nat) : OwnerKeepsPending (resumeSeatOrder n) := by
  intro s
  have resumed : PendingKept s (resumeStation n s) := .ite (.refl s) (.ite rfl (setStation_pendingKept n _ s))
  unfold resumeSeatOrder
  refine .ite_reply ?_ (.refl s)
  split
  · exact resumed
  · exact .refl s
  · exact .refl s
  · exact .refl s
  · exact .refl s
  · exact .refl s

theorem bypassOrder_keepsPending (n : Nat) : OwnerKeepsPending (bypassOrder n) := by
  intro s
  have bypassed : PendingKept s (bypassStation n s) :=
    .frame (depart_floorFrame n _) (.comp (setStation_pendingKept n _ _) rfl)
  exact .ite_reply (.ite_reply bypassed (.refl s)) (.refl s)

theorem unbypassOrder_keepsPending (n : Nat) : OwnerKeepsPending (unbypassOrder n) := fun s =>
  .ite_reply (.ite_reply (.comp (setStation_pendingKept n _ _) rfl) (.refl s)) (.refl s)

theorem clearCallOrder_keepsPending (n : Nat) : OwnerKeepsPending (clearCallOrder n) := fun s =>
  .ite_reply (.ite_reply (.frame (markLamp_floorFrame n _) (setStation_pendingKept n _ s)) (.refl s)) (.refl s)

theorem loadRingPlanOrder_keepsPending (f : RawRingPlan) : OwnerKeepsPending (loadRingPlanOrder f) := by
  intro s
  unfold loadRingPlanOrder
  split
  · exact .refl s
  · exact .ite_reply (.refl s) (.comp (retestCadence_pendingKept _) (.comp (selectClock_pendingKept _ _) rfl))

/-! The calendar unit's orders. -/

theorem guarded_keepsPending {go : State → Reply} (keeps : OwnerKeepsPending go) (code : Nat) (guard : BitVec 32) :
    OwnerKeepsPending (guarded code guard go) := fun s =>
  .ite_reply (.refl s) (.ite_reply (.frame (raise_floorFrame _ _ _ _) rfl) (keeps s))

theorem setClockOrder_keepsPending (time : Nat) (guard : BitVec 32) :
    OwnerKeepsPending (setClockOrder time guard) := by
  intro s
  refine .ite_reply (guarded_keepsPending (fun t => ?_) _ guard s) rfl
  exact .ite_reply rfl rfl

theorem bookOrder_keepsPending (f : RawBooking) : OwnerKeepsPending (bookOrder f) := by
  intro s
  unfold bookOrder
  refine .ite_reply rfl ?_
  split
  · exact rfl
  · refine .ite_reply rfl (.ite_reply rfl ?_)
    split
    · exact rfl
    · exact rfl

theorem alterOrder_keepsPending (id : Nat) (f : RawBooking) : OwnerKeepsPending (alterOrder id f) := by
  intro s
  unfold alterOrder
  refine .ite_reply rfl ?_
  split
  · exact rfl
  · refine .ite_reply rfl ?_
    split
    · exact rfl
    · refine .ite_reply rfl ?_
      split
      · exact rfl
      · exact rfl

theorem cancelOrder_keepsPending (id : Nat) : OwnerKeepsPending (cancelOrder id) := by
  intro s
  unfold cancelOrder
  split
  · exact rfl
  · exact .ite_reply rfl (.ite_reply rfl rfl)

theorem readBookingOrder_keepsPending (position : Nat) : OwnerKeepsPending (readBookingOrder position) := by
  intro s
  unfold readBookingOrder
  split
  · exact rfl
  · split
    · exact rfl
    · exact rfl

theorem lowerHorizonOrder_keepsPending (time : Nat) (guard : BitVec 32) :
    OwnerKeepsPending (lowerHorizonOrder time guard) := by
  refine guarded_keepsPending (fun t => ?_) _ guard
  exact rfl

theorem eraseBookingsOrder_keepsPending (guard : BitVec 32) : OwnerKeepsPending (eraseBookingsOrder guard) :=
  guarded_keepsPending (go := takeErase) (fun _ => rfl) _ guard

/-! The session controller's orders. -/

theorem loadPlanOrder_keepsPending (p : Nat) (enabled : SeatSet) (c1 c2 : Nat) (right : SeatSet) :
    OwnerKeepsPending (loadPlanOrder p enabled c1 c2 right) := by
  intro s
  unfold loadPlanOrder
  refine .ite_reply rfl ?_
  split
  · exact rfl
  · exact .ite_reply rfl rfl

theorem loadWalkInOrder_keepsPending (f : RawWalkIn) : OwnerKeepsPending (loadWalkInOrder f) := by
  intro s
  unfold loadWalkInOrder
  split
  · exact rfl
  · exact rfl

theorem startNowOrder_keepsPending : OwnerKeepsPending startNowOrder := by
  intro s
  have started := startWalkIn_pendingKept .order s
  rw [← startNowReply_state] at started
  exact .ite_reply rfl (.ite_reply rfl (.ite_reply rfl (.ite_reply started rfl)))

theorem endNowOrder_keepsPending : OwnerKeepsPending endNowOrder := by
  intro s
  unfold endNowOrder
  split
  · exact .refl s
  · exact endSession_pendingKept .order s

theorem extendOrder_keepsPending : OwnerKeepsPending extendOrder := by
  intro s
  have extended := requestExtension_pendingKept .order s
  rwa [← extendReply_state] at extended

theorem raiseGradeOrder_keepsPending (g : Nat) : OwnerKeepsPending (raiseGradeOrder g) := by
  intro s
  unfold raiseGradeOrder
  split
  · exact .refl s
  · exact .ite_reply rfl (.ite_reply rfl (.ite_reply (takeGrade_pendingKept _ g s) rfl))

theorem adjustSessionOrder_keepsPending (field value : Nat) : OwnerKeepsPending (adjustSessionOrder field value) := by
  intro s
  unfold adjustSessionOrder
  split
  · exact .refl s
  · split
    · exact .refl s
    · exact .ite_reply rfl (.comp (afterAdjust_pendingKept _ _ field _) (setCtx_pendingKept s _))

theorem switchPlanOrder_keepsPending (p : Nat) : OwnerKeepsPending (switchPlanOrder p) := by
  intro s
  unfold switchPlanOrder
  split
  · exact .refl s
  · exact .ite_reply rfl (.ite_reply rfl (.ite_reply
      (.comp (switchActivePlan_pendingKept p _) (.of_floorFrame (admitRecord_floorFrame _ s))) rfl))

theorem readSessionOrder_keepsPending : OwnerKeepsPending readSessionOrder := by
  intro s
  unfold readSessionOrder
  split
  · exact rfl
  · exact rfl

/-! The floor's orders. -/

theorem grantOrder_keepsPending (n force : Nat) : OwnerKeepsPending (grantOrder n force) := by
  intro s
  have granted {r : Bool × State} (frame : FloorFrame s r.2) : PendingKept s (grantReply n r).state := by
    rw [grantReply_state]
    exact .of_floorFrame frame
  have opened (cat : Category) := granted (tryOpen_floorFrame n cat .order s)
  have replaced := granted (replaceMic_floorFrame n .order .order s)
  unfold grantOrder
  split
  · exact .refl s
  · exact .ite_reply rfl (.ite_reply rfl (.ite_reply rfl (.ite_reply (opened .chair) (.ite_reply rfl
      (.ite_reply (opened .delegate) (.ite_reply rfl replaced))))))

theorem closeOrder_keepsPending (n : Nat) : OwnerKeepsPending (closeOrder n) := by
  intro s
  unfold closeOrder
  refine .ite_reply rfl (.ite_reply rfl ?_)
  split
  · exact .refl s
  · split
    · exact .refl s
    · exact .of_floorFrame (closeMic_floorFrame n _ s)

theorem closeAllOrder_keepsPending (chairs : Nat) : OwnerKeepsPending (closeAllOrder chairs) := by
  intro s
  have closed (seats : List Nat) : FloorFrame s (seats.foldl (fun u n => closeMicOnly n .order u) s) :=
    .foldl (fun t n => closeMicOnly_floorFrame n .order t) seats s
  unfold closeAllOrder
  refine .ite_reply rfl ?_
  split
  · exact .refl s
  · exact .of_floorFrame (.ite (closed _) ((closed _).trans (autoOpen_floorFrame _)))

theorem queueInsertOrder_keepsPending (n position : Nat) : OwnerKeepsPending (queueInsertOrder n position) := fun s =>
  .ite_reply rfl (.ite_reply rfl (.ite_reply rfl (.ite_reply rfl (.ite_reply rfl
    (.of_floorFrame ((joinQueue_floorFrame n position .order s).trans (autoOpen_floorFrame _)))))))

theorem queueRemoveOrder_keepsPending (n : Nat) : OwnerKeepsPending (queueRemoveOrder n) := fun s =>
  .ite_reply rfl (.ite_reply rfl (.ite_reply (.of_floorFrame (withdraw_floorFrame n .order s)) rfl))

theorem queueClearOrder_keepsPending : OwnerKeepsPending queueClearOrder := fun s =>
  .ite_reply (.of_floorFrame (.foldl (fun t n => withdrawOnly_floorFrame n .order t) s.queue s)) rfl

theorem readQueueOrder_keepsPending (position : Nat) : OwnerKeepsPending (readQueueOrder position) := fun _ =>
  .ite_reply rfl (.ite_reply rfl rfl)

/-! The orders of the mix engine and of the share controller. -/

theorem clearClockFaultOrder_keepsPending : OwnerKeepsPending clearClockFaultOrder := by
  intro s
  unfold clearClockFaultOrder
  split
  · exact .ite_reply (.frame (raise_floorFrame _ _ _ _) rfl) rfl
  · exact rfl
  · exact rfl
  · exact rfl

theorem shareGrantOrder_keepsPending (n : Nat) : OwnerKeepsPending (shareGrantOrder n) := fun s =>
  .ite_reply rfl (.ite_reply rfl (.ite_reply rfl (.ite_reply rfl (.ite_reply
    (.of_floorFrame ((endShareOnly_floorFrame _ s).trans (grantLane_floorFrame n _ _))) rfl))))

theorem shareEndOrder_keepsPending : OwnerKeepsPending shareEndOrder := fun s =>
  .ite_reply rfl (.ite_reply rfl (.of_floorFrame (endShare_floorFrame .order s)))

/-! The panel engine's orders. -/

theorem stage_keepsPending (op : PanelOp) (T : Targets) : OwnerKeepsPending (stage op T) := fun s =>
  .ite_reply rfl (.of_floorFrame ((setPanel_floorFrame s _).trans (takeStaged_floorFrame _)))

theorem panelPageOrder_keepsPending (p : Nat) (tg : TargetSet) : OwnerKeepsPending (panelPageOrder p tg) := by
  intro s
  unfold panelPageOrder
  split
  · exact stage_keepsPending _ _ s
  · exact .refl s

theorem panelTextOrder_keepsPending (c l : Nat) (x : List Byte) (tg : TargetSet) :
    OwnerKeepsPending (panelTextOrder c l x tg) := by
  intro s
  unfold panelTextOrder
  split
  · exact .ite_reply (stage_keepsPending _ _ s) rfl
  · exact .refl s

theorem panelTileOrder_keepsPending (k c x y : Nat) (tg : TargetSet) :
    OwnerKeepsPending (panelTileOrder k c x y tg) := by
  intro s
  unfold panelTileOrder
  split
  · exact .ite_reply (.ite_reply (stage_keepsPending _ _ s) rfl) rfl
  · exact .refl s

theorem panelFillOrder_keepsPending (c x0 x1 y0 y1 k : Nat) (tg : TargetSet) :
    OwnerKeepsPending (panelFillOrder c x0 x1 y0 y1 k tg) := by
  intro s
  unfold panelFillOrder
  split
  · exact .ite_reply (stage_keepsPending _ _ s) rfl
  · exact .refl s

theorem setClipOrder_keepsPending (x0 x1 y0 y1 : Nat) (tg : TargetSet) :
    OwnerKeepsPending (setClipOrder x0 x1 y0 y1 tg) := by
  intro s
  unfold setClipOrder
  split
  · exact .ite_reply (.of_floorFrame (.foldl (fun t n => setPanelOf_floorFrame n _ t) _ s)) rfl
  · exact .refl s

theorem tileFlipOrder_keepsPending (k : Nat) : OwnerKeepsPending (tileFlipOrder k) := fun _ =>
  .ite_reply rfl (.ite_reply rfl (.ite_reply rfl rfl))

/-! The orders of the minutes unit, of the order unit and of the supply and cadence unit. -/

theorem setLogModeOrder_keepsPending (mode : Nat) : OwnerKeepsPending (setLogModeOrder mode) := by
  intro s
  unfold setLogModeOrder
  split
  · exact .refl s
  · exact .refl s
  · exact .ite_reply rfl (.ite_reply rfl
      (.frame (handover_floorFrame _) (.frame (autoOpen_floorFrame _) (setCtx_pendingKept s _))))

theorem setLogRangeOrder_keepsPending (range enabled first last mask : Nat) :
    OwnerKeepsPending (setLogRangeOrder range enabled first last mask) := by
  intro s
  unfold setLogRangeOrder
  split
  · exact .ite_reply rfl (.of_floorFrame (.ite (setMinutes_floorFrame s _) (setMinutes_floorFrame s _)))
  · exact .refl s

theorem setNoticeMaskOrder_keepsPending (m : BitVec 16) : OwnerKeepsPending (setNoticeMaskOrder m) := fun s =>
  .of_floorFrame (.ite ((setOrders_floorFrame s _).trans (offerAlert_floorFrame _)) (setOrders_floorFrame s _))

theorem takeNoticeOrder_keepsPending : OwnerKeepsPending takeNoticeOrder := fun s =>
  .ite_reply rfl (.ite_reply rfl (.of_floorFrame (setNotice_floorFrame _ _ s)))

theorem enableBackupOrder_keepsPending : OwnerKeepsPending enableBackupOrder := by
  intro s
  unfold enableBackupOrder
  split
  · exact rfl
  · exact rfl

theorem restartOrder_keepsPending : OwnerKeepsPending restartOrder := by
  intro s
  rw [restartOrder_taken]
  exact rfl

/-! ### The commands -/

/-- Settles O2: the events by what they do in the main domain or at the supplies, the orders by their owners. -/
theorem everyCommandAnswersNext : Obligations.EveryCommandAnswersNext := by
  intro i s
  have order {owner : State → Reply} (keeps : OwnerKeepsPending owner) (hd : OrderHead) (code : Nat) :
      PendingKept s (runOrder i hd code owner s) := runOrder_pendingKept keeps i hd code s
  cases i with
  | frameEmit =>
      exact ⟨_, rfl, inMain_pendingKept (.comp (emitFrame_pendingKept _) (failOutstanding_pendingKept s))⟩
  | frameReturn number lane slots =>
      refine ⟨_, rfl, inMain_pendingKept ?_⟩
      split
      · exact .refl s
      · exact .ite (returnFrame_pendingKept _ lane slots s) (.refl s)
  | frameFail => exact ⟨_, rfl, inMain_pendingKept (failOutstanding_pendingKept s)⟩
  | probeRound => exact ⟨_, rfl, inMain_pendingKept (probeRound_pendingKept s)⟩
  | haltIntervalExpiry n => exact ⟨_, rfl, inMain_pendingKept (haltInterval_pendingKept n s)⟩
  | graceExpiry =>
      exact ⟨_, rfl, inMain_pendingKept (.of_floorFrame (.ite (endShare_floorFrame .grace s) (.refl s)))⟩
  | tableTimeTick => exact ⟨_, rfl, tick_pendingKept s⟩
  | speakLimitExpiry n => exact ⟨_, rfl, inMain_pendingKept (.of_floorFrame (speakLimitReached_floorFrame n s))⟩
  | flashExpiry n =>
      exact ⟨_, rfl, inMain_pendingKept (.of_floorFrame (.ite (setPanelOf_floorFrame n _ s) (.refl s)))⟩
  | listRefreshExpiry =>
      exact ⟨_, rfl, inMain_pendingKept (.of_floorFrame (.ite (markLists_floorFrame _ s) (.refl s)))⟩
  | cadenceTimerExpiry => exact ⟨_, rfl, inMain_pendingKept (.ite rfl (.refl s))⟩
  | externalPresent => exact ⟨_, rfl, inMain_pendingKept (s := s) rfl⟩
  | externalLoss => exact ⟨_, rfl, inMain_pendingKept (externalLost_pendingKept s)⟩
  | mainsLoss => exact ⟨_, rfl, mainsLost_pendingKept s⟩
  | mainsReturn reading =>
      exact ⟨_, rfl, PendingKept.frame (settle_floorFrame _) (mainsReturned_pendingKept reading s)⟩
  | backupLow => exact ⟨_, rfl, backupFell_pendingKept s⟩
  | backupOk => exact ⟨_, rfl, backupRose_pendingKept s⟩
  | resetLineLow => exact ⟨_, rfl, lineLow_pendingKept s⟩
  | resetLineRelease reading =>
      exact ⟨_, rfl, PendingKept.frame (settle_floorFrame _) (lineReleased_pendingKept reading s)⟩
  | restartExecute reading => exact ⟨_, rfl, inMain_pendingKept (restartDue_pendingKept reading s)⟩
  | readStation hd n => exact ⟨_, rfl, order (owner := readStationOrder n) (fun _ => .ite_reply rfl rfl) hd _⟩
  | forget hd n => exact ⟨_, rfl, order (forgetOrder_keepsPending n) hd _⟩
  | haltSeat hd n => exact ⟨_, rfl, order (haltSeatOrder_keepsPending n) hd _⟩
  | resumeSeat hd n => exact ⟨_, rfl, order (resumeSeatOrder_keepsPending n) hd _⟩
  | bypass hd n => exact ⟨_, rfl, order (bypassOrder_keepsPending n) hd _⟩
  | unbypass hd n => exact ⟨_, rfl, order (unbypassOrder_keepsPending n) hd _⟩
  | clearCall hd n => exact ⟨_, rfl, order (clearCallOrder_keepsPending n) hd _⟩
  | loadPlan hd p e c1 c2 r => exact ⟨_, rfl, order (loadPlanOrder_keepsPending p e c1 c2 r) hd _⟩
  | readPlan hd p => exact ⟨_, rfl, order (owner := readPlanOrder p) (fun _ => .ite_reply rfl rfl) hd _⟩
  | loadWalkIn hd f => exact ⟨_, rfl, order (loadWalkInOrder_keepsPending f) hd _⟩
  | readWalkIn hd => exact ⟨_, rfl, order (owner := readWalkInOrder) (fun _ => rfl) hd _⟩
  | setClock hd time guard => exact ⟨_, rfl, order (setClockOrder_keepsPending time guard) hd _⟩
  | readClock hd => exact ⟨_, rfl, order (owner := readClockOrder) (fun _ => rfl) hd _⟩
  | book hd f => exact ⟨_, rfl, order (bookOrder_keepsPending f) hd _⟩
  | alter hd id f => exact ⟨_, rfl, order (alterOrder_keepsPending id f) hd _⟩
  | cancel hd id => exact ⟨_, rfl, order (cancelOrder_keepsPending id) hd _⟩
  | readBooking hd p => exact ⟨_, rfl, order (readBookingOrder_keepsPending p) hd _⟩
  | setHorizon hd time => exact ⟨_, rfl, order (owner := setHorizonOrder time) (fun _ => .ite_reply rfl rfl) hd _⟩
  | lowerHorizon hd time guard => exact ⟨_, rfl, order (lowerHorizonOrder_keepsPending time guard) hd _⟩
  | eraseBookings hd guard => exact ⟨_, rfl, order (eraseBookingsOrder_keepsPending guard) hd _⟩
  | setGuard hd value => exact ⟨_, rfl, order (owner := setGuardOrder value) (fun _ => .ite_reply rfl rfl) hd _⟩
  | startNow hd => exact ⟨_, rfl, order startNowOrder_keepsPending hd _⟩
  | endNow hd => exact ⟨_, rfl, order endNowOrder_keepsPending hd _⟩
  | extend hd => exact ⟨_, rfl, order extendOrder_keepsPending hd _⟩
  | raiseGrade hd g => exact ⟨_, rfl, order (raiseGradeOrder_keepsPending g) hd _⟩
  | adjustSession hd field value => exact ⟨_, rfl, order (adjustSessionOrder_keepsPending field value) hd _⟩
  | switchPlan hd p => exact ⟨_, rfl, order (switchPlanOrder_keepsPending p) hd _⟩
  | readSession hd => exact ⟨_, rfl, order readSessionOrder_keepsPending hd _⟩
  | grant hd n force => exact ⟨_, rfl, order (grantOrder_keepsPending n force) hd _⟩
  | close hd n => exact ⟨_, rfl, order (closeOrder_keepsPending n) hd _⟩
  | closeAll hd chairs => exact ⟨_, rfl, order (closeAllOrder_keepsPending chairs) hd _⟩
  | queueInsert hd n p => exact ⟨_, rfl, order (queueInsertOrder_keepsPending n p) hd _⟩
  | queueRemove hd n => exact ⟨_, rfl, order (queueRemoveOrder_keepsPending n) hd _⟩
  | queueClear hd => exact ⟨_, rfl, order queueClearOrder_keepsPending hd _⟩
  | readQueue hd p => exact ⟨_, rfl, order (readQueueOrder_keepsPending p) hd _⟩
  | readChannels hd => exact ⟨_, rfl, order (owner := readChannelsOrder) (fun _ => rfl) hd _⟩
  | setGain hd bus source code =>
      exact ⟨_, rfl, order (owner := setGainOrder bus source code) (fun _ => .ite_reply rfl rfl) hd _⟩
  | readMix hd bus => exact ⟨_, rfl, order (owner := readMixOrder bus) (fun _ => .ite_reply rfl rfl) hd _⟩
  | shareGrant hd n => exact ⟨_, rfl, order (shareGrantOrder_keepsPending n) hd _⟩
  | shareEnd hd => exact ⟨_, rfl, order shareEndOrder_keepsPending hd _⟩
  | shareClearWaiting hd =>
      exact ⟨_, rfl, order (owner := shareClearWaitingOrder) (fun _ => .ite_reply rfl rfl) hd _⟩
  | panelPage hd p tg => exact ⟨_, rfl, order (panelPageOrder_keepsPending p tg) hd _⟩
  | panelText hd c l x tg => exact ⟨_, rfl, order (panelTextOrder_keepsPending c l x tg) hd _⟩
  | panelTile hd k c x y tg => exact ⟨_, rfl, order (panelTileOrder_keepsPending k c x y tg) hd _⟩
  | panelFill hd c x0 x1 y0 y1 k tg => exact ⟨_, rfl, order (panelFillOrder_keepsPending c x0 x1 y0 y1 k tg) hd _⟩
  | setClip hd x0 x1 y0 y1 tg => exact ⟨_, rfl, order (setClipOrder_keepsPending x0 x1 y0 y1 tg) hd _⟩
  | tileLoad hd k p d => exact ⟨_, rfl, order (owner := tileLoadOrder k p d) (fun _ => .ite_reply rfl rfl) hd _⟩
  | tileFlip hd k => exact ⟨_, rfl, order (tileFlipOrder_keepsPending k) hd _⟩
  | readPanel hd n => exact ⟨_, rfl, order (owner := readPanelOrder n) (fun _ => .ite_reply rfl rfl) hd _⟩
  | setLogMode hd mode => exact ⟨_, rfl, order (setLogModeOrder_keepsPending mode) hd _⟩
  | setLogRange hd r e a b m => exact ⟨_, rfl, order (setLogRangeOrder_keepsPending r e a b m) hd _⟩
  | readLog hd => exact ⟨_, rfl, order (owner := readLogOrder) (fun _ => rfl) hd _⟩
  | readStatus hd => exact ⟨_, rfl, order (owner := readStatusOrder) (fun _ => rfl) hd _⟩
  | setNoticeMask hd m => exact ⟨_, rfl, order (setNoticeMaskOrder_keepsPending m) hd _⟩
  | takeNotice hd => exact ⟨_, rfl, order takeNoticeOrder_keepsPending hd _⟩
  | clearNotices hd => exact ⟨_, rfl, order (owner := clearNoticesOrder) (fun _ => rfl) hd _⟩
  | loadRingPlan hd f => exact ⟨_, rfl, order (loadRingPlanOrder_keepsPending f) hd _⟩
  | enableBackup hd => exact ⟨_, rfl, order enableBackupOrder_keepsPending hd _⟩
  | disableBackup hd => exact ⟨_, rfl, order (owner := disableBackupOrder) (fun _ => rfl) hd _⟩
  | clearClockFault hd => exact ⟨_, rfl, order clearClockFaultOrder_keepsPending hd _⟩
  | restart hd => exact ⟨_, rfl, order restartOrder_keepsPending hd _⟩

/-! ### The step (log 4) -/

theorem step_of_cons {s : State} {c : Instr} {rest : List Instr} (front : s.pending = c :: rest) :
    step s = exec c (s.setPending rest) := by
  simp only [step, front]

theorem step_of_nil {s : State} (empty : s.pending = []) : step s = .next s := by
  simp only [step, empty]

/-- Settles O1: by the queue of the commands that wait, with one in front and with none. -/
theorem stepRunsFrontCommand : Obligations.StepRunsFrontCommand :=
  ⟨fun _ _ _ front => step_of_cons front, fun _ empty => step_of_nil empty⟩

end Sys2Proof.CommandQueue
end
